-- ==== Sys2Proof/Word.lean ====
section
/-! DEFINITION. The word types of the block (spec/00_scope.md R10: a byte is 8 bits, every value is unsigned)
and the two field extractions of the command code (spec/30_encoding.md R77). -/
namespace Sys2Proof

/-- A byte (R10). -/
abbrev Byte := BitVec 8

/-- A 4-bit field: a verb or a channel (R77). -/
abbrev Nibble := BitVec 4

end Sys2Proof
end

