-- ==== Sys2Proof/Config.lean ====
section
/-! DEFINITION. The parameters of the block (spec/00_scope.md R8, R9): the constants the source states, the record of
the parameters a model takes as an argument, and the OPEN ones as constants without a body. -/
namespace Sys2Proof

/-- The six address spaces (spec/10_state.md R33), each indexed from 0 (spec/20_memory.md R60). -/
inductive Space where
  | line | bmp | arg | xlat | lglyph | pglyph
deriving DecidableEq, Repr

/-! ### Values the source states (R8, kind "source") -/

/-- `COLS`: entries of the line buffer, and bytes of one bitmap row. -/
def Config.cols : Nat := 48

/-- `ROWS`: dot rows rendered from glyphs. -/
def Config.rows : Nat := 8

/-- `PAD_ROWS`: blank rows after the glyph rows. -/
def Config.padRows : Nat := 1

/-- `GLYPH_BYTES`: bytes of one glyph. -/
def Config.glyphBytes : Nat := 8

/-- `LINE_SIZE = COLS + 1` (R8, derived constants). -/
def Config.lineSize : Nat := 49

/-- `BMP_ROWS = ROWS + PAD_ROWS` (R8, derived constants). -/
def Config.bmpRows : Nat := 9

/-- `BMP_SIZE = BMP_ROWS * COLS` (R8, derived constants). -/
def Config.bmpSize : Nat := 432

/-- `WIDTH_BITS = COLS * 8` (R8, derived constants). -/
def Config.widthBits : Nat := 384

/-- `CH_UPPER`: the channel of the legacy uppercase font. -/
def Config.chUpper : Nibble := 0#4

/-- `CH_PC`: the channel of the non-legacy font. -/
def Config.chPc : Nibble := 1#4

/-- `CH_LOWER`: the channel of the legacy shifted/lowercase font. -/
def Config.chLower : Nibble := 7#4

/-! ### The parameters -/

/-- The parameters a model takes as an argument (R8). A field with a default has the value R8 gives as its default
(general knowledge or decision: log entry 5); a field without one is OPEN in R8. `ID_STRING` is held as its first byte and
the rest, so that `ID_LEN >= 1` (R9 (e)) holds by construction. -/
structure Config where
  /-- `VERB_OPEN` -/
  verbOpen : Nibble := 0xF#4
  /-- `VERB_CLOSE` -/
  verbClose : Nibble := 0xE#4
  /-- `VERB_DATA` -/
  verbData : Nibble := 0x6#4
  /-- the first member of `VERBS_LISTEN`: LISTEN of devices 0 to 15 -/
  verbListenLo : Nibble := 0x2#4
  /-- the second member of `VERBS_LISTEN`: LISTEN of devices 16 to 30, and UNLISTEN -/
  verbListenHi : Nibble := 0x3#4
  /-- the first member of `VERBS_TALK`: TALK of devices 0 to 15 -/
  verbTalkLo : Nibble := 0x4#4
  /-- the second member of `VERBS_TALK`: TALK of devices 16 to 30, and UNTALK -/
  verbTalkHi : Nibble := 0x5#4
  /-- `CH_CMD`, the reserved command/status channel -/
  chCmd : Nibble := 15#4
  /-- `CODE_CR` -/
  codeCr : Byte := 0x0D#8
  /-- `CODE_RVS_ON` -/
  codeRvsOn : Byte := 0x12#8
  /-- `CODE_RVS_OFF` -/
  codeRvsOff : Byte := 0x92#8
  /-- `CODE_CASE_LOWER` -/
  codeCaseLower : Byte := 0x11#8
  /-- `CODE_CASE_UPPER` -/
  codeCaseUpper : Byte := 0x91#8
  /-- `PRINT_RANGES`: first and last byte of each printable range -/
  printRanges : List (Byte × Byte) := [(0x20#8, 0x7F#8), (0xA0#8, 0xFF#8)]
  /-- `VARIANT_OFFSET`, in glyphs -/
  variantOffset : Nat := 256
  /-- `REVERSE_OFFSET`, in glyphs -/
  reverseOffset : Nat := 128
  /-- `BLANK` -/
  blank : Byte := 0x00#8
  /-- the first byte of `ID_STRING` (OPEN) -/
  idHead : Byte
  /-- the bytes of `ID_STRING` after the first (OPEN) -/
  idTail : List Byte
  /-- `ERR_DEFAULT` (OPEN) -/
  errDefault : Byte
  /-- `ARG_MAX` (OPEN) -/
  argMax : Nat
  /-- `HAS_RESET_LINE` (OPEN) -/
  hasResetLine : Bool
deriving DecidableEq, Repr

/-! ### OPEN values: constants without a body, so that nothing rests on what they are (log entry 4) -/

/-- The first byte of this platform's `ID_STRING`: OPEN (R8, D8). -/
opaque Config.openIdHead : Byte

/-- The rest of this platform's `ID_STRING`: OPEN (R8, D8). -/
opaque Config.openIdTail : List Byte

/-- This platform's `ERR_DEFAULT`: OPEN (R8, D9). -/
opaque Config.openErrDefault : Byte

/-- This platform's `ARG_MAX`: OPEN (R8, D32). -/
opaque Config.openArgMax : Nat

/-- This platform's `HAS_RESET_LINE`: OPEN (R8, D31). -/
opaque Config.openHasResetLine : Bool

/-- What a font table reads as at an address that no listed cell populates: any value, the same for the same address
(spec/93_implementation_defined.md U6, spec/20_memory.md R56 to R58). The table contents are in no source (N12). -/
opaque Config.unpopulated : Space → Nat → Byte

/-- What `arg_addr_o` shows: any value, since the core never exercises the read port into `ARG` (spec/44_interfaces.md R205,
spec/93_implementation_defined.md U18; log entry 27). -/
opaque Config.idleArgAddr : Nat

/-- The parameters the reset state carries: the defaults of R8, and the OPEN values as the constants above. -/
def Config.platform : Config where
  idHead := Config.openIdHead
  idTail := Config.openIdTail
  errDefault := Config.openErrDefault
  argMax := Config.openArgMax
  hasResetLine := Config.openHasResetLine

/-! ### What follows from the parameters -/

/-- `ID_STRING` (R8). -/
def Config.idString (c : Config) : List Byte := c.idHead :: c.idTail

/-- `ID_LEN` (R8). -/
def Config.idLen (c : Config) : Nat := c.idTail.length + 1

/-- `AW`, the number of bits of 0..`ARG_MAX` (spec/10_state.md R20), at least 1. -/
def Config.argWidth (c : Config) : Nat := Nat.log2 c.argMax + 1

/-- The size of each space in bytes (spec/10_state.md R33). -/
def Space.size (c : Config) : Space → Nat
  | .line => Config.lineSize
  | .bmp => Config.bmpSize
  | .arg => c.argMax
  | .xlat => 256
  | .lglyph => 8192
  | .pglyph => 2048

/-- `printable(b)`: `b` lies in `PRINT_RANGES` (spec/43_render.md R163); unsigned comparison (R183). -/
def Config.printable (c : Config) (b : Byte) : Bool :=
  c.printRanges.any fun r => decide (r.1.toNat ≤ b.toNat ∧ b.toNat ≤ r.2.toNat)

/-- The five control codes (R9 (a)). -/
def Config.controlCodes (c : Config) : List Byte :=
  [c.codeCr, c.codeRvsOn, c.codeRvsOff, c.codeCaseLower, c.codeCaseUpper]

/-- The verb values with a meaning of their own (R9 (c)). -/
def Config.assignedVerbs (c : Config) : List Nibble :=
  [c.verbOpen, c.verbClose, c.verbData, c.verbListenLo, c.verbListenHi, c.verbTalkLo, c.verbTalkHi]

/-- The hypotheses on the parameters: R9 (a), (b), (c) as they stand; (d) is about constants (`Config.chUpper` and the
others) and (e) holds by construction. The last conjunct is R86 (c) and R165: the glyph index is a 10-bit sum without wrap
(log entry 19). -/
def Config.wf (c : Config) : Bool :=
  decide c.controlCodes.Nodup
  && c.controlCodes.all (fun b => !c.printable b)
  && decide c.assignedVerbs.Nodup
  && decide (255 + c.variantOffset + c.reverseOffset < 1024)

/-- The verb values without a meaning (spec/30_encoding.md R80), in rising order. With the default parameters:
0x0, 0x1, 0x7 to 0xD. -/
def Config.unassignedVerbs (c : Config) : List Nibble :=
  ((List.range 16).map (BitVec.ofNat 4)).filter fun v => !c.assignedVerbs.contains v

/-- How many unassigned verb values lie below `v`. -/
def Config.unassignedRank (c : Config) (v : Nibble) : Nat :=
  (c.unassignedVerbs.filter fun u => decide (u.toNat < v.toNat)).length

/-- The `k`-th unassigned verb value, counted from 0. -/
def Config.unassignedVerb (c : Config) (k : Nat) : Nibble := c.unassignedVerbs.getD k 0#4

end Sys2Proof
end

