-- ==== Sys2Proof/Syntax.lean ====
section
/-! DEFINITION. The instructions: one constructor per row of spec/opcode_table.json, 83 rows in six formats
(spec/30_encoding.md R75, R88; spec/00_scope.md R4 says what an instruction of this block is). An operand holds every bit of
the word that the row does not fix, the bits the row calls unused (`u`) among them, so that no bit of an encoding is dropped.
A data byte of the formats `DB_ING` and `DB_SCAN` is held whole; `WellFormed` says which bytes a row takes. -/
namespace Sys2Proof

/-- The six formats of the opcode table (R75, R88). -/
inductive Format where
  /-- the service word of one service cycle, 12 bits (R76) -/
  | sw
  /-- the receive answer, 10 bits (R82) -/
  | rxa
  /-- the ingest class of a data byte, 8 bits (R83) -/
  | dbIng
  /-- the scan class of a data byte, 8 bits (R84) -/
  | dbScan
  /-- the font selection by channel, 4 bits (R85) -/
  | fs
  /-- the host request `{init_i, svc_start_i}`, 2 bits (R88, R204) -/
  | host
deriving DecidableEq, Repr

/-- The width of a format's word in bits (R75, R88). -/
def Format.width : Format → Nat
  | .sw => 12
  | .rxa => 10
  | .dbIng => 8
  | .dbScan => 8
  | .fs => 4
  | .host => 2

/-- The direction of a decoded command (spec/30_encoding.md R78: `TALK`, `LISTEN`, `COMMAND`). -/
inductive Dir where
  | talk | listen | command
deriving DecidableEq, Repr

/-- The 3-bit attention result of a direction (R78). -/
def Dir.res : Dir → BitVec 3
  | .talk => 1#3
  | .listen => 2#3
  | .command => 3#3

/-- An instruction of the block. -/
inductive Instr where
  /-- `RESET`: `1uuu uuuu uuuu` (R101) -/
  | reset (unused : BitVec 11)
  /-- `ATN.IDLE`: `0000 uuuu uuuu` (R103) -/
  | atnIdle (unused : Byte)
  /-- `ATN.ERROR`: `0100 uuuu uuuu` (R105) -/
  | atnError (unused : Byte)
  /-- `ATN.RSVD5`: `0101 uuuu uuuu`, a reserved attention result (R117) -/
  | atnRsvd5 (unused : Byte)
  /-- `ATN.RSVD6`: `0110 uuuu uuuu`, a reserved attention result (R117) -/
  | atnRsvd6 (unused : Byte)
  /-- `ATN.RSVD7`: `0111 uuuu uuuu`, a reserved attention result (R117) -/
  | atnRsvd7 (unused : Byte)
  /-- `OPEN.T`: `0001 1111 cccc` (R107) -/
  | openT (chan : Nibble)
  /-- `CLOSE.T`: `0001 1110 cccc` (R111) -/
  | closeT (chan : Nibble)
  /-- `DATA.T`: `0001 0110 cccc` (R108) -/
  | dataT (chan : Nibble)
  /-- `LISTEN.T`: `0001 0010 eeee`, devices 0 to 15 (R112) -/
  | listenT (dev : Nibble)
  /-- `LISTEN.T.hi`: `0001 0011 eeee`, devices 16 to 30 (R112) -/
  | listenTHi (dev : Nibble)
  /-- `UNLISTEN.T`: `0001 0011 1111` (R113) -/
  | unlistenT
  /-- `TALK.T`: `0001 0100 eeee`, devices 0 to 15 (R114) -/
  | talkT (dev : Nibble)
  /-- `TALK.T.hi`: `0001 0101 eeee`, devices 16 to 30 (R114) -/
  | talkTHi (dev : Nibble)
  /-- `UNTALK.T`: `0001 0101 1111` (R115) -/
  | untalkT
  /-- `RSVD0.T`: `0001 0000 uuuu`, an unassigned verb (R116) -/
  | rsvd0T (low : Nibble)
  /-- `RSVD1.T`: `0001 0001 uuuu`, an unassigned verb (R116) -/
  | rsvd1T (low : Nibble)
  /-- `RSVD7.T`: `0001 0111 uuuu`, an unassigned verb (R116) -/
  | rsvd7T (low : Nibble)
  /-- `RSVD8.T`: `0001 1000 uuuu`, an unassigned verb (R116) -/
  | rsvd8T (low : Nibble)
  /-- `RSVD9.T`: `0001 1001 uuuu`, an unassigned verb (R116) -/
  | rsvd9T (low : Nibble)
  /-- `RSVDA.T`: `0001 1010 uuuu`, an unassigned verb (R116) -/
  | rsvdAT (low : Nibble)
  /-- `RSVDB.T`: `0001 1011 uuuu`, an unassigned verb (R116) -/
  | rsvdBT (low : Nibble)
  /-- `RSVDC.T`: `0001 1100 uuuu`, an unassigned verb (R116) -/
  | rsvdCT (low : Nibble)
  /-- `RSVDD.T`: `0001 1101 uuuu`, an unassigned verb (R116) -/
  | rsvdDT (low : Nibble)
  /-- `OPEN.L`: `0010 1111 cccc` (R107) -/
  | openL (chan : Nibble)
  /-- `CLOSE.L`: `0010 1110 cccc` (R111) -/
  | closeL (chan : Nibble)
  /-- `DATA.L`: `0010 0110 cccc` (R109) -/
  | dataL (chan : Nibble)
  /-- `LISTEN.L`: `0010 0010 eeee`, devices 0 to 15 (R112) -/
  | listenL (dev : Nibble)
  /-- `LISTEN.L.hi`: `0010 0011 eeee`, devices 16 to 30 (R112) -/
  | listenLHi (dev : Nibble)
  /-- `UNLISTEN.L`: `0010 0011 1111` (R113) -/
  | unlistenL
  /-- `TALK.L`: `0010 0100 eeee`, devices 0 to 15 (R114) -/
  | talkL (dev : Nibble)
  /-- `TALK.L.hi`: `0010 0101 eeee`, devices 16 to 30 (R114) -/
  | talkLHi (dev : Nibble)
  /-- `UNTALK.L`: `0010 0101 1111` (R115) -/
  | untalkL
  /-- `RSVD0.L`: `0010 0000 uuuu`, an unassigned verb (R116) -/
  | rsvd0L (low : Nibble)
  /-- `RSVD1.L`: `0010 0001 uuuu`, an unassigned verb (R116) -/
  | rsvd1L (low : Nibble)
  /-- `RSVD7.L`: `0010 0111 uuuu`, an unassigned verb (R116) -/
  | rsvd7L (low : Nibble)
  /-- `RSVD8.L`: `0010 1000 uuuu`, an unassigned verb (R116) -/
  | rsvd8L (low : Nibble)
  /-- `RSVD9.L`: `0010 1001 uuuu`, an unassigned verb (R116) -/
  | rsvd9L (low : Nibble)
  /-- `RSVDA.L`: `0010 1010 uuuu`, an unassigned verb (R116) -/
  | rsvdAL (low : Nibble)
  /-- `RSVDB.L`: `0010 1011 uuuu`, an unassigned verb (R116) -/
  | rsvdBL (low : Nibble)
  /-- `RSVDC.L`: `0010 1100 uuuu`, an unassigned verb (R116) -/
  | rsvdCL (low : Nibble)
  /-- `RSVDD.L`: `0010 1101 uuuu`, an unassigned verb (R116) -/
  | rsvdDL (low : Nibble)
  /-- `OPEN.C`: `0011 1111 cccc` (R107) -/
  | openC (chan : Nibble)
  /-- `CLOSE.C`: `0011 1110 cccc` (R111) -/
  | closeC (chan : Nibble)
  /-- `DATA.C`: `0011 0110 cccc` (R110) -/
  | dataC (chan : Nibble)
  /-- `LISTEN.C`: `0011 0010 eeee`, devices 0 to 15 (R112) -/
  | listenC (dev : Nibble)
  /-- `LISTEN.C.hi`: `0011 0011 eeee`, devices 16 to 30 (R112) -/
  | listenCHi (dev : Nibble)
  /-- `UNLISTEN.C`: `0011 0011 1111` (R113) -/
  | unlistenC
  /-- `TALK.C`: `0011 0100 eeee`, devices 0 to 15 (R114) -/
  | talkC (dev : Nibble)
  /-- `TALK.C.hi`: `0011 0101 eeee`, devices 16 to 30 (R114) -/
  | talkCHi (dev : Nibble)
  /-- `UNTALK.C`: `0011 0101 1111` (R115) -/
  | untalkC
  /-- `RSVD0.C`: `0011 0000 uuuu`, an unassigned verb (R116) -/
  | rsvd0C (low : Nibble)
  /-- `RSVD1.C`: `0011 0001 uuuu`, an unassigned verb (R116) -/
  | rsvd1C (low : Nibble)
  /-- `RSVD7.C`: `0011 0111 uuuu`, an unassigned verb (R116) -/
  | rsvd7C (low : Nibble)
  /-- `RSVD8.C`: `0011 1000 uuuu`, an unassigned verb (R116) -/
  | rsvd8C (low : Nibble)
  /-- `RSVD9.C`: `0011 1001 uuuu`, an unassigned verb (R116) -/
  | rsvd9C (low : Nibble)
  /-- `RSVDA.C`: `0011 1010 uuuu`, an unassigned verb (R116) -/
  | rsvdAC (low : Nibble)
  /-- `RSVDB.C`: `0011 1011 uuuu`, an unassigned verb (R116) -/
  | rsvdBC (low : Nibble)
  /-- `RSVDC.C`: `0011 1100 uuuu`, an unassigned verb (R116) -/
  | rsvdCC (low : Nibble)
  /-- `RSVDD.C`: `0011 1101 uuuu`, an unassigned verb (R116) -/
  | rsvdDC (low : Nibble)
  /-- `RX.MORE`: receive answer `00 bbbbbbbb` (R142) -/
  | rxMore (byte : Byte)
  /-- `RX.LAST`: receive answer `01 bbbbbbbb` (R143) -/
  | rxLast (byte : Byte)
  /-- `RX.ERR`: receive answer `1u uuuuuuuu` (R144) -/
  | rxErr (eod : Bool) (byte : Byte)
  /-- `ING.CR`: data byte `CODE_CR` (R153) -/
  | ingCr
  /-- `ING.CHAR`: any other data byte (R151, R152) -/
  | ingChar (b : Byte)
  /-- `SCAN.PRINT.20`: a printable byte of `001b bbbb` (R164) -/
  | scanPrint20 (b : Byte)
  /-- `SCAN.PRINT.40`: a printable byte of `01bb bbbb` (R164) -/
  | scanPrint40 (b : Byte)
  /-- `SCAN.PRINT.A0`: a printable byte of `101b bbbb` (R164) -/
  | scanPrintA0 (b : Byte)
  /-- `SCAN.PRINT.C0`: a printable byte of `11bb bbbb` (R164) -/
  | scanPrintC0 (b : Byte)
  /-- `SCAN.CR`: data byte `CODE_CR` (R166) -/
  | scanCr
  /-- `SCAN.RVS_ON`: data byte `CODE_RVS_ON` (R167) -/
  | scanRvsOn
  /-- `SCAN.RVS_OFF`: data byte `CODE_RVS_OFF` (R170) -/
  | scanRvsOff
  /-- `SCAN.CASE_LOWER`: data byte `CODE_CASE_LOWER` (R168) -/
  | scanCaseLower
  /-- `SCAN.CASE_UPPER`: data byte `CODE_CASE_UPPER` (R169) -/
  | scanCaseUpper
  /-- `SCAN.CTRL.00`: another non-printable byte of `000b bbbb` (R172) -/
  | scanCtrl00 (b : Byte)
  /-- `SCAN.CTRL.80`: another non-printable byte of `100b bbbb` (R172) -/
  | scanCtrl80 (b : Byte)
  /-- `FS.UPPER`: channel 0 (R137) -/
  | fsUpper
  /-- `FS.PC`: channel 1 (R137) -/
  | fsPc
  /-- `FS.LOWER`: channel 7 (R137) -/
  | fsLower
  /-- `FS.DEFAULT`: any other channel (R137) -/
  | fsDefault (chan : Nibble)
  /-- `INITIALIZE`: host request `1u` (R200) -/
  | hostInit (start : Bool)
  /-- `SERVICE_CYCLE`: host request `01` (R191) -/
  | hostServiceCycle
  /-- `HOST.NONE`: host request `00` (R204) -/
  | hostNone
deriving DecidableEq, Repr

end Sys2Proof
end

