-- ==== Sys2Proof/WellFormed.lean ====
section
/-! DEFINITION. Which terms of `Instr` are instructions: a row takes only the words that no row of smaller `priority` takes
(spec/30_encoding.md R88), and a data byte lies in its row's class (R83 to R85). -/
namespace Sys2Proof

/-- A byte of the class `SCAN.PRINT` in the band `lo..hi` of its row (R84). -/
def Config.printRow (c : Config) (lo hi : Nat) (b : Byte) : Bool :=
  c.printable b && decide (lo ≤ b.toNat ∧ b.toNat ≤ hi)

/-- A byte of the class `SCAN.CTRL` in the band `lo..hi` of its row (R84). -/
def Config.ctrlRow (c : Config) (lo hi : Nat) (b : Byte) : Bool :=
  !c.printable b && !c.controlCodes.contains b && decide (lo ≤ b.toNat ∧ b.toNat ≤ hi)

/-- The well-formed instructions. Device 31 of the second LISTEN and TALK verbs is UNLISTEN and UNTALK (R80); a channel
with a font of its own is not `FS.DEFAULT` (R85). With the default parameters the bands are those of the table's rows;
the wider bands of `SCAN.PRINT.20`, `SCAN.PRINT.A0` and `SCAN.CTRL` matter for other parameters only (log entry 6). -/
def Instr.wf (c : Config) : Instr → Bool
  | .listenTHi dev | .listenLHi dev | .listenCHi dev => decide (dev ≠ 0xF#4)
  | .talkTHi dev | .talkLHi dev | .talkCHi dev => decide (dev ≠ 0xF#4)
  | .ingChar b => decide (b ≠ c.codeCr)
  | .scanPrint20 b => c.printRow 0x00 0x3F b
  | .scanPrint40 b => c.printRow 0x40 0x7F b
  | .scanPrintA0 b => c.printRow 0x80 0xBF b
  | .scanPrintC0 b => c.printRow 0xC0 0xFF b
  | .scanCtrl00 b => c.ctrlRow 0x00 0x7F b
  | .scanCtrl80 b => c.ctrlRow 0x80 0xFF b
  | .fsDefault ch => decide (ch ≠ Config.chUpper ∧ ch ≠ Config.chPc ∧ ch ≠ Config.chLower)
  | .reset _ | .atnIdle _ | .atnError _ | .atnRsvd5 _ | .atnRsvd6 _ | .atnRsvd7 _ => true
  | .openT _ | .closeT _ | .dataT _ | .listenT _ | .unlistenT | .talkT _ | .untalkT => true
  | .rsvd0T _ | .rsvd1T _ | .rsvd7T _ | .rsvd8T _ | .rsvd9T _ | .rsvdAT _ | .rsvdBT _ | .rsvdCT _ | .rsvdDT _ => true
  | .openL _ | .closeL _ | .dataL _ | .listenL _ | .unlistenL | .talkL _ | .untalkL => true
  | .rsvd0L _ | .rsvd1L _ | .rsvd7L _ | .rsvd8L _ | .rsvd9L _ | .rsvdAL _ | .rsvdBL _ | .rsvdCL _ | .rsvdDL _ => true
  | .openC _ | .closeC _ | .dataC _ | .listenC _ | .unlistenC | .talkC _ | .untalkC => true
  | .rsvd0C _ | .rsvd1C _ | .rsvd7C _ | .rsvd8C _ | .rsvd9C _ | .rsvdAC _ | .rsvdBC _ | .rsvdCC _ | .rsvdDC _ => true
  | .rxMore _ | .rxLast _ | .rxErr _ _ | .ingCr => true
  | .scanCr | .scanRvsOn | .scanRvsOff | .scanCaseLower | .scanCaseUpper => true
  | .fsUpper | .fsPc | .fsLower | .hostInit _ | .hostServiceCycle | .hostNone => true

end Sys2Proof
end

