-- ==== Sys2Proof/Decode.lean ====
section
/-! DEFINITION. Decoding and encoding of the six formats (spec/30_encoding.md R75 to R88), under given parameters. Every
word of a format decodes (R87: no encoding traps); only a number too wide for its format is rejected, by name. -/
namespace Sys2Proof

/-! ### Fields and words -/

/-- `verb = code[7:4]` (R77). -/
def verbOf (code : Byte) : Nibble := BitVec.ofNat 4 (code.toNat / 16)

/-- `chan = code[3:0]` (R77). -/
def chanOf (code : Byte) : Nibble := BitVec.ofNat 4 code.toNat

/-- The command code with the given verb and low four bits (R77). -/
def commandCode (verb low : Nibble) : Byte := BitVec.ofNat 8 (verb.toNat * 16 + low.toNat)

/-- The service word `{R, res, code}` as a number (R76). -/
def serviceWord (r : Bool) (res : BitVec 3) (code : Byte) : Nat :=
  r.toNat * 2048 + res.toNat * 256 + code.toNat

/-- The receive answer `{err, eod, byte}` as a number (R75, R82). -/
def receiveWord (err eod : Bool) (byte : Byte) : Nat :=
  err.toNat * 512 + eod.toNat * 256 + byte.toNat

/-- The host request `{init_i, svc_start_i}` as a number (R88, R204). -/
def hostWord (init start : Bool) : Nat := init.toNat * 2 + start.toNat

/-! ### Rows of the three directions (R80: the direction matters for `DATA` only) -/

/-- The `OPEN` row of a direction. -/
def openRow (d : Dir) (low : Nibble) : Instr :=
  match d with
  | .talk => .openT low
  | .listen => .openL low
  | .command => .openC low

/-- The `CLOSE` row of a direction. -/
def closeRow (d : Dir) (low : Nibble) : Instr :=
  match d with
  | .talk => .closeT low
  | .listen => .closeL low
  | .command => .closeC low

/-- The `DATA` row of a direction. -/
def dataRow (d : Dir) (low : Nibble) : Instr :=
  match d with
  | .talk => .dataT low
  | .listen => .dataL low
  | .command => .dataC low

/-- The `LISTEN` row, devices 0 to 15. -/
def listenRow (d : Dir) (low : Nibble) : Instr :=
  match d with
  | .talk => .listenT low
  | .listen => .listenL low
  | .command => .listenC low

/-- The `LISTEN` row, devices 16 to 30. -/
def listenHiRow (d : Dir) (low : Nibble) : Instr :=
  match d with
  | .talk => .listenTHi low
  | .listen => .listenLHi low
  | .command => .listenCHi low

/-- The `UNLISTEN` row. -/
def unlistenRow (d : Dir) : Instr :=
  match d with
  | .talk => .unlistenT
  | .listen => .unlistenL
  | .command => .unlistenC

/-- The `TALK` row, devices 0 to 15. -/
def talkRow (d : Dir) (low : Nibble) : Instr :=
  match d with
  | .talk => .talkT low
  | .listen => .talkL low
  | .command => .talkC low

/-- The `TALK` row, devices 16 to 30. -/
def talkHiRow (d : Dir) (low : Nibble) : Instr :=
  match d with
  | .talk => .talkTHi low
  | .listen => .talkLHi low
  | .command => .talkCHi low

/-- The `UNTALK` row. -/
def untalkRow (d : Dir) : Instr :=
  match d with
  | .talk => .untalkT
  | .listen => .untalkL
  | .command => .untalkC

/-- The rows of the nine unassigned verbs, direction T: row `k` stands for the `k`-th unassigned verb in rising order
(R80, R116; log entry 6). -/
def rsvdRowT (k : Nat) (low : Nibble) : Instr :=
  match k with
  | 0 => .rsvd0T low
  | 1 => .rsvd1T low
  | 2 => .rsvd7T low
  | 3 => .rsvd8T low
  | 4 => .rsvd9T low
  | 5 => .rsvdAT low
  | 6 => .rsvdBT low
  | 7 => .rsvdCT low
  | _ => .rsvdDT low

/-- The rows of the nine unassigned verbs, direction L: row `k` stands for the `k`-th unassigned verb in rising order
(R80, R116; log entry 6). -/
def rsvdRowL (k : Nat) (low : Nibble) : Instr :=
  match k with
  | 0 => .rsvd0L low
  | 1 => .rsvd1L low
  | 2 => .rsvd7L low
  | 3 => .rsvd8L low
  | 4 => .rsvd9L low
  | 5 => .rsvdAL low
  | 6 => .rsvdBL low
  | 7 => .rsvdCL low
  | _ => .rsvdDL low

/-- The rows of the nine unassigned verbs, direction C: row `k` stands for the `k`-th unassigned verb in rising order
(R80, R116; log entry 6). -/
def rsvdRowC (k : Nat) (low : Nibble) : Instr :=
  match k with
  | 0 => .rsvd0C low
  | 1 => .rsvd1C low
  | 2 => .rsvd7C low
  | 3 => .rsvd8C low
  | 4 => .rsvd9C low
  | 5 => .rsvdAC low
  | 6 => .rsvdBC low
  | 7 => .rsvdCC low
  | _ => .rsvdDC low

/-- The row of an unassigned verb (R116). -/
def rsvdRow (d : Dir) (k : Nat) (low : Nibble) : Instr :=
  match d with
  | .talk => rsvdRowT k low
  | .listen => rsvdRowL k low
  | .command => rsvdRowC k low

/-! ### Decoders -/

/-- The row of a command code that came with direction `d` (R80, R104). -/
def decodeCommand (c : Config) (d : Dir) (code : Byte) : Instr :=
  let verb := verbOf code
  let low := chanOf code
  if verb = c.verbOpen then openRow d low
  else if verb = c.verbClose then closeRow d low
  else if verb = c.verbData then dataRow d low
  else if verb = c.verbListenLo then listenRow d low
  else if verb = c.verbListenHi then (if low = 0xF#4 then unlistenRow d else listenHiRow d low)
  else if verb = c.verbTalkLo then talkRow d low
  else if verb = c.verbTalkHi then (if low = 0xF#4 then untalkRow d else talkHiRow d low)
  else rsvdRow d (c.unassignedRank verb) low

/-- A service word (R76, R78, R80): `R` first, then the attention result, then the command code. -/
def decodeServiceWord (c : Config) (w : Nat) : Instr :=
  let code := BitVec.ofNat 8 w
  if 2048 ≤ w then .reset (BitVec.ofNat 11 w)
  else match w / 256 with
    | 0 => .atnIdle code
    | 1 => decodeCommand c .talk code
    | 2 => decodeCommand c .listen code
    | 3 => decodeCommand c .command code
    | 4 => .atnError code
    | 5 => .atnRsvd5 code
    | 6 => .atnRsvd6 code
    | _ => .atnRsvd7 code

/-- A receive answer: `err` is looked at first (R82). -/
def decodeReceive (w : Nat) : Instr :=
  let byte := BitVec.ofNat 8 w
  if 512 ≤ w then .rxErr (decide (w / 256 % 2 = 1)) byte
  else if 256 ≤ w then .rxLast byte
  else .rxMore byte

/-- The ingest class of a data byte (R83). -/
def decodeIngest (c : Config) (b : Byte) : Instr := if b = c.codeCr then .ingCr else .ingChar b

/-- The row of a printable byte (R84). -/
def printRowOf (b : Byte) : Instr :=
  if b.toNat < 0x40 then .scanPrint20 b
  else if b.toNat < 0x80 then .scanPrint40 b
  else if b.toNat < 0xC0 then .scanPrintA0 b
  else .scanPrintC0 b

/-- The scan class of a data byte, in the order of spec/43_render.md R162 (R84). -/
def decodeScan (c : Config) (b : Byte) : Instr :=
  if c.printable b then printRowOf b
  else if b = c.codeCr then .scanCr
  else if b = c.codeRvsOn then .scanRvsOn
  else if b = c.codeRvsOff then .scanRvsOff
  else if b = c.codeCaseLower then .scanCaseLower
  else if b = c.codeCaseUpper then .scanCaseUpper
  else if b.toNat < 0x80 then .scanCtrl00 b
  else .scanCtrl80 b

/-- The font selection of a channel (R85). -/
def decodeFontSelect (ch : Nibble) : Instr :=
  if ch = Config.chUpper then .fsUpper
  else if ch = Config.chPc then .fsPc
  else if ch = Config.chLower then .fsLower
  else .fsDefault ch

/-- The host request: `init_i` wins over a simultaneous `svc_start_i` (spec/44_interfaces.md R204). -/
def decodeHost (w : Nat) : Instr :=
  if 2 ≤ w then .hostInit (decide (w % 2 = 1))
  else if w = 1 then .hostServiceCycle
  else .hostNone

/-- Why a word has no instruction. -/
inductive DecodeError where
  /-- the number has bits above the format's width -/
  | wordTooWide (f : Format) (w : Nat)
deriving DecidableEq, Repr

/-- The decoder: the instruction that word `w` of format `f` stands for. -/
def decode (c : Config) (f : Format) (w : Nat) : Except DecodeError Instr :=
  if w < 2 ^ f.width then
    .ok (match f with
      | .sw => decodeServiceWord c w
      | .rxa => decodeReceive w
      | .dbIng => decodeIngest c (BitVec.ofNat 8 w)
      | .dbScan => decodeScan c (BitVec.ofNat 8 w)
      | .fs => decodeFontSelect (BitVec.ofNat 4 w)
      | .host => decodeHost w)
  else .error (.wordTooWide f w)

/-! ### Encoders -/

/-- The format of an instruction. -/
def Instr.format : Instr → Format
  | .rxMore _ | .rxLast _ | .rxErr _ _ => .rxa
  | .ingCr | .ingChar _ => .dbIng
  | .scanPrint20 _ | .scanPrint40 _ | .scanPrintA0 _ | .scanPrintC0 _ => .dbScan
  | .scanCr | .scanRvsOn | .scanRvsOff | .scanCaseLower | .scanCaseUpper => .dbScan
  | .scanCtrl00 _ | .scanCtrl80 _ => .dbScan
  | .fsUpper | .fsPc | .fsLower | .fsDefault _ => .fs
  | .hostInit _ | .hostServiceCycle | .hostNone => .host
  | .reset _ | .atnIdle _ | .atnError _ | .atnRsvd5 _ | .atnRsvd6 _ | .atnRsvd7 _ => .sw
  | .openT _ | .closeT _ | .dataT _ | .listenT _ | .listenTHi _ | .unlistenT => .sw
  | .talkT _ | .talkTHi _ | .untalkT => .sw
  | .rsvd0T _ | .rsvd1T _ | .rsvd7T _ | .rsvd8T _ | .rsvd9T _ | .rsvdAT _ | .rsvdBT _ | .rsvdCT _ | .rsvdDT _ => .sw
  | .openL _ | .closeL _ | .dataL _ | .listenL _ | .listenLHi _ | .unlistenL => .sw
  | .talkL _ | .talkLHi _ | .untalkL => .sw
  | .rsvd0L _ | .rsvd1L _ | .rsvd7L _ | .rsvd8L _ | .rsvd9L _ | .rsvdAL _ | .rsvdBL _ | .rsvdCL _ | .rsvdDL _ => .sw
  | .openC _ | .closeC _ | .dataC _ | .listenC _ | .listenCHi _ | .unlistenC => .sw
  | .talkC _ | .talkCHi _ | .untalkC => .sw
  | .rsvd0C _ | .rsvd1C _ | .rsvd7C _ | .rsvd8C _ | .rsvd9C _ | .rsvdAC _ | .rsvdBC _ | .rsvdCC _ | .rsvdDC _ => .sw

/-- The service word of a decoded command: `R = 0`, the direction, the verb and the low four bits (R76, R77). -/
def commandWord (d : Dir) (verb low : Nibble) : Nat := serviceWord false d.res (commandCode verb low)

/-- The word of an instruction, in its own format (R76 to R85, R88). -/
def encode (c : Config) : Instr → Nat
  | .reset u => 2048 + u.toNat
  | .atnIdle u => serviceWord false 0#3 u
  | .atnError u => serviceWord false 4#3 u
  | .atnRsvd5 u => serviceWord false 5#3 u
  | .atnRsvd6 u => serviceWord false 6#3 u
  | .atnRsvd7 u => serviceWord false 7#3 u
  | .openT ch => commandWord .talk c.verbOpen ch
  | .closeT ch => commandWord .talk c.verbClose ch
  | .dataT ch => commandWord .talk c.verbData ch
  | .listenT dev => commandWord .talk c.verbListenLo dev
  | .listenTHi dev => commandWord .talk c.verbListenHi dev
  | .unlistenT => commandWord .talk c.verbListenHi 0xF#4
  | .talkT dev => commandWord .talk c.verbTalkLo dev
  | .talkTHi dev => commandWord .talk c.verbTalkHi dev
  | .untalkT => commandWord .talk c.verbTalkHi 0xF#4
  | .rsvd0T low => commandWord .talk (c.unassignedVerb 0) low
  | .rsvd1T low => commandWord .talk (c.unassignedVerb 1) low
  | .rsvd7T low => commandWord .talk (c.unassignedVerb 2) low
  | .rsvd8T low => commandWord .talk (c.unassignedVerb 3) low
  | .rsvd9T low => commandWord .talk (c.unassignedVerb 4) low
  | .rsvdAT low => commandWord .talk (c.unassignedVerb 5) low
  | .rsvdBT low => commandWord .talk (c.unassignedVerb 6) low
  | .rsvdCT low => commandWord .talk (c.unassignedVerb 7) low
  | .rsvdDT low => commandWord .talk (c.unassignedVerb 8) low
  | .openL ch => commandWord .listen c.verbOpen ch
  | .closeL ch => commandWord .listen c.verbClose ch
  | .dataL ch => commandWord .listen c.verbData ch
  | .listenL dev => commandWord .listen c.verbListenLo dev
  | .listenLHi dev => commandWord .listen c.verbListenHi dev
  | .unlistenL => commandWord .listen c.verbListenHi 0xF#4
  | .talkL dev => commandWord .listen c.verbTalkLo dev
  | .talkLHi dev => commandWord .listen c.verbTalkHi dev
  | .untalkL => commandWord .listen c.verbTalkHi 0xF#4
  | .rsvd0L low => commandWord .listen (c.unassignedVerb 0) low
  | .rsvd1L low => commandWord .listen (c.unassignedVerb 1) low
  | .rsvd7L low => commandWord .listen (c.unassignedVerb 2) low
  | .rsvd8L low => commandWord .listen (c.unassignedVerb 3) low
  | .rsvd9L low => commandWord .listen (c.unassignedVerb 4) low
  | .rsvdAL low => commandWord .listen (c.unassignedVerb 5) low
  | .rsvdBL low => commandWord .listen (c.unassignedVerb 6) low
  | .rsvdCL low => commandWord .listen (c.unassignedVerb 7) low
  | .rsvdDL low => commandWord .listen (c.unassignedVerb 8) low
  | .openC ch => commandWord .command c.verbOpen ch
  | .closeC ch => commandWord .command c.verbClose ch
  | .dataC ch => commandWord .command c.verbData ch
  | .listenC dev => commandWord .command c.verbListenLo dev
  | .listenCHi dev => commandWord .command c.verbListenHi dev
  | .unlistenC => commandWord .command c.verbListenHi 0xF#4
  | .talkC dev => commandWord .command c.verbTalkLo dev
  | .talkCHi dev => commandWord .command c.verbTalkHi dev
  | .untalkC => commandWord .command c.verbTalkHi 0xF#4
  | .rsvd0C low => commandWord .command (c.unassignedVerb 0) low
  | .rsvd1C low => commandWord .command (c.unassignedVerb 1) low
  | .rsvd7C low => commandWord .command (c.unassignedVerb 2) low
  | .rsvd8C low => commandWord .command (c.unassignedVerb 3) low
  | .rsvd9C low => commandWord .command (c.unassignedVerb 4) low
  | .rsvdAC low => commandWord .command (c.unassignedVerb 5) low
  | .rsvdBC low => commandWord .command (c.unassignedVerb 6) low
  | .rsvdCC low => commandWord .command (c.unassignedVerb 7) low
  | .rsvdDC low => commandWord .command (c.unassignedVerb 8) low
  | .rxMore b => receiveWord false false b
  | .rxLast b => receiveWord false true b
  | .rxErr eod b => receiveWord true eod b
  | .ingCr => c.codeCr.toNat
  | .ingChar b => b.toNat
  | .scanPrint20 b | .scanPrint40 b | .scanPrintA0 b | .scanPrintC0 b => b.toNat
  | .scanCr => c.codeCr.toNat
  | .scanRvsOn => c.codeRvsOn.toNat
  | .scanRvsOff => c.codeRvsOff.toNat
  | .scanCaseLower => c.codeCaseLower.toNat
  | .scanCaseUpper => c.codeCaseUpper.toNat
  | .scanCtrl00 b | .scanCtrl80 b => b.toNat
  | .fsUpper => Config.chUpper.toNat
  | .fsPc => Config.chPc.toNat
  | .fsLower => Config.chLower.toNat
  | .fsDefault ch => ch.toNat
  | .hostInit start => hostWord true start
  | .hostServiceCycle => hostWord false true
  | .hostNone => hostWord false false

/-! ### Words of the opcode table -/

/-- The format a table word of `nbits` bits is read in. The table's formats share their whole-byte sizes (`SW` and `RXA` take
two bytes; `DB_ING`, `DB_SCAN`, `FS` and `HOST` take one), and a word alone does not say its format: of the formats of one
size the one with the most rows is taken; an exact width names its format (log entry 7). -/
def tableFormat : Nat → Option Format
  | 16 => some .sw
  | 12 => some .sw
  | 10 => some .rxa
  | 8 => some .dbScan
  | 4 => some .fs
  | 2 => some .host
  | _ => none

/-- The instruction the decoder reads from a word of the opcode table, with the platform's parameters. -/
def decodeTableWord (nbits w : Nat) : Option Instr :=
  match tableFormat nbits with
  | none => none
  | some f => (decode Config.platform f w).toOption

end Sys2Proof
end

