-- ==== Sys2Proof/Machine/State.lean ====
section
/-! DEFINITION. The state of the block (spec/10_state.md), its faults and refusals, and the state after reset. Every register
the spec names is a field; the model's own fields stand at the end of `State` and are named as such. -/
namespace Sys2Proof.Machine

/-- The state of the command FSM, the block's program counter (spec/10_state.md R22). Values 6 and 7 have no member (R87 (f)). -/
inductive Phase where
  | idle | open | dataTalk | dataListen | close | busLevel
deriving DecidableEq, Repr

/-- The members of `open_state` the source names: one (R27; log entry 18). -/
inductive OpenState where
  | nothing
deriving DecidableEq, Repr

/-- The font register (R28). Value 3 has no member (R87 (f)). -/
inductive Font where
  | c64Upper | c64Lower | pc
deriving DecidableEq, Repr

/-- The outcome codes (spec/30_encoding.md R79). Values 6 and 7 have no member (R87 (f)). -/
inductive OutcomeCode where
  | idle | talk | listen | command | error | reset
deriving DecidableEq, Repr

/-- The calls that may fail to return (spec/00_scope.md R15). -/
inductive CallName where
  | decodeAttention | send | sendFinal | receive | printRaster
deriving DecidableEq, Repr

/-- What is observable of the core (spec/00_scope.md R16): the calls it makes, with their arguments, and the outcome codes it
returns. A call is recorded when it is made, whether or not it ever returns (log entry 14). -/
inductive Event where
  /-- `detect_reset()` (spec/44_interfaces.md R192) -/
  | detectReset
  /-- `decode_attention()` (R193) -/
  | decodeAttention
  /-- `send(b)` (R194) -/
  | send (b : Byte)
  /-- `send_final(b)` (R195) -/
  | sendFinal (b : Byte)
  /-- `receive()` (R196) -/
  | receive
  /-- `print_raster(widthBits, rowCount, bytes)` (R198) -/
  | printRaster (widthBits rowCount : Nat) (bytes : List Byte)
  /-- `service_cycle()` returned an outcome code (R191) -/
  | returned (oc : OutcomeCode)
deriving DecidableEq, Repr

/-- The input ports, as sampled at one edge of the clock (spec/44_interfaces.md R204, R205, R207). `atnArgs` holds the bytes the
driver puts into `ARG` when it answers `decode_attention()` (R193). `argData` is the data of the read port into `ARG`, which the core
never exercises (R205; log entry 27), so no step reads it. -/
structure Pins where
  rst : Bool := false
  init : Bool := false
  svcStart : Bool := false
  drvReset : Bool := false
  atnAck : Bool := false
  atnRes : BitVec 3 := 0#3
  atnCode : Byte := 0#8
  atnArgLen : Nat := 0
  atnArgs : List Byte := []
  argData : Byte := 0#8
  txReady : Bool := false
  rxAck : Bool := false
  rxData : Byte := 0#8
  rxEod : Bool := false
  rxErr : Bool := false
  prReady : Bool := false
  prAck : Bool := false
deriving DecidableEq, Repr

/-- Where the core stands between two steps: the position inside a phase (spec/10_state.md R24), which says the format of the
next instruction or which piece of a handler comes next (log entry 1). -/
inductive Stage where
  /-- between service cycles: the host request is sampled (spec/44_interfaces.md R204) -/
  | host
  /-- in a service cycle, before the dispatch: the service word is taken (spec/40_dispatch.md R100) -/
  | sw
  /-- in the talk handler: byte `txIdx` is being sent (spec/41_sessions.md R134) -/
  | talk
  /-- in the listen handler, before the font selection (R137) -/
  | fontSelect
  /-- in the listen handler, after the font selection, before the buffer reset (R138) -/
  | openSession
  /-- in a `receive()` call (R139) -/
  | rx
  /-- the received byte is to be ingested (spec/42_ingest.md R150) -/
  | ingest
  /-- in a row scan: `LINE[idx]` is to be scanned (spec/43_render.md R162) -/
  | scan
  /-- after the eight row scans: padding row and hand-over (R173, R175) -/
  | pad
  /-- in a `print_raster` call (R175) -/
  | print
  /-- the handler has returned: normal completion comes next (spec/40_dispatch.md R106) -/
  | complete
deriving DecidableEq, Repr

/-- A memory of one space: (index, byte) pairs, indices strictly rising. An unlisted index holds no value (log entry 9). -/
abbrev Memory := List Host.Cell

/-- The indices rise strictly. -/
def Memory.rising : Memory → Bool
  | [] => true
  | [_] => true
  | x :: y :: m => decide (x.1 < y.1) && Memory.rising (y :: m)

/-- The canonical form: indices strictly rising and below `size`. (No entry can equal what an unlisted index reads as, since
that is no value.) -/
def Memory.wf (m : Memory) (size : Nat) : Bool := m.rising && m.all fun x => decide (x.1 < size)

/-- Why the machine stops with a fault. None is an exception of the block (spec/60_exceptions.md R220). -/
inductive Fault where
  /-- a `MemWrite` or `MemRead` at an index that does not exist in its space, raised by `memWrite` and `memRead`
  (spec/20_memory.md R50 gives it no meaning); safe: no run from reset reaches it -/
  | indexOutOfRange (sp : Space) (a : Nat)
  /-- a read of a buffer byte that nothing has written, raised by `memRead` and the bitmap hand-over (spec/10_state.md R46);
  safe: no run from reset reaches it -/
  | readUnwritten (sp : Space) (a : Nat)
  /-- a printable byte with more skipped entries before it than entries, so that its column `idx - skip` is no natural number,
  raised by `scanPrint` (spec/43_render.md R171: `skip <= idx` always); safe: no run from reset reaches it -/
  | noColumn (idx skip : Nat)
  /-- the talk handler stands at a position past the identification string, raised by the send step (spec/41_sessions.md R134);
  safe: no run from reset reaches it -/
  | noReplyByte (i : Nat)
  /-- the stuck state of spec/60_exceptions.md R241: the call has not returned and the tape holds no further input sample, so
  the state has no successor; raised by `step`; safe (log entry 3) -/
  | stuck (call : CallName)
deriving DecidableEq, Repr

/-- Why the machine refuses. -/
inductive Refusal where
  /-- an instruction that has no meaning yet, raised by `exec`'s arm; safe -/
  | notModelled (mnemonic : String)
  /-- the driver answered a command with an argument longer than `ARG_MAX`, a breach of its contract (spec/44_interfaces.md R193;
  spec/93_implementation_defined.md U10: `refuse`), raised by `step`; safe -/
  | argumentTooLong (len : Nat)
  /-- a word wider than its format, raised by `step`; safe: no port is that wide, so no state reaches it -/
  | undecodable (f : Format) (w : Nat)
deriving DecidableEq, Repr

/-- The state of the block. -/
structure State where
  /-- `phase` (R22) -/
  phase : Phase
  /-- `open_state` (R27) -/
  openState : OpenState
  /-- `font` (R28) -/
  font : Font
  /-- `pending_err` (R29) -/
  pendingErr : Byte
  /-- `cmd_res`, the latched attention result (R20, spec/30_encoding.md R78) -/
  cmdRes : BitVec 3
  /-- `cmd_code`, the latched command code (R20) -/
  cmdCode : Byte
  /-- `cmd_arg_len`, the latched argument length (R20) -/
  cmdArgLen : Nat
  /-- `outcome` (R20, spec/30_encoding.md R79) -/
  outcome : OutcomeCode
  /-- `line_len` (R20, R30) -/
  lineLen : Nat
  /-- `tx_idx` (R20) -/
  txIdx : Nat
  /-- `rx_byte` (R20) -/
  rxByte : Byte
  /-- `rx_eod` (R20, R25) -/
  rxEod : Bool
  /-- `rx_err` (R20, R25) -/
  rxErr : Bool
  /-- `row` (R20) -/
  row : Nat
  /-- `idx` (R20) -/
  idx : Nat
  /-- `eol` (R20, R25) -/
  eol : Bool
  /-- `rvs` (R20, R25) -/
  rvs : Bool
  /-- `skip` (R20) -/
  skip : Nat
  /-- `crit` (R20, R25, spec/44_interfaces.md R199) -/
  crit : Bool
  /-- `LINE`, 49 bytes (R30) -/
  line : Memory
  /-- `BMP`, 432 bytes (R31) -/
  bmp : Memory
  /-- `ARG`, `ARG_MAX` bytes (R32) -/
  arg : Memory
  /-- `XLAT`, 256 bytes, read only (spec/20_memory.md R56) -/
  xlat : Memory
  /-- `LGLYPH`, 8192 bytes, read only (R57) -/
  lglyph : Memory
  /-- `PGLYPH`, 2048 bytes, read only (R58) -/
  pglyph : Memory
  /-- `svc_busy_o` (spec/44_interfaces.md R204) -/
  svcBusy : Bool
  /-- `svc_done_o` (R204) -/
  svcDone : Bool
  /-- the model's own: the parameters (spec/00_scope.md R8), which no step changes -/
  cfg : Config
  /-- the model's own: the position inside the phase -/
  stage : Stage
  /-- the model's own: the latched answer of `detect_reset()`, bit `R` of the service word (spec/30_encoding.md R76) -/
  pollR : Bool
  /-- the model's own: how many bitmap bytes the transport has taken (spec/44_interfaces.md R207) -/
  prIdx : Nat
  /-- the model's own: the input ports as sampled at the current edge -/
  pins : Pins
  /-- the model's own: the input samples still to come -/
  tape : List Pins
  /-- the model's own: the observable events so far, oldest first (spec/00_scope.md R16) -/
  trace : List Event
deriving DecidableEq, Repr

/-- The state after reset (R45, R46). The registers R46 calls unspecified hold 0 (log entry 8); the OPEN parameters and table
contents stay open (log entries 4, 10); no input is on the tape (log entry 2). -/
def State.reset : State where
  phase := .idle
  openState := .nothing
  font := .c64Upper
  pendingErr := Config.platform.errDefault
  cmdRes := 0#3
  cmdCode := 0#8
  cmdArgLen := 0
  outcome := .idle
  lineLen := 0
  txIdx := 0
  rxByte := 0#8
  rxEod := false
  rxErr := false
  row := 0
  idx := 0
  eol := false
  rvs := false
  skip := 0
  crit := false
  line := []
  bmp := []
  arg := []
  xlat := []
  lglyph := []
  pglyph := []
  svcBusy := false
  svcDone := false
  cfg := Config.platform
  stage := .host
  pollR := false
  prIdx := 0
  pins := {}
  tape := []
  trace := []

end Sys2Proof.Machine
end

