-- ==== Sys2Proof/Machine/Ops.lean ====
section
/-! DEFINITION. The named operations over memory and registers: byte access, the reset routine, taking an exception and the
return of a service cycle, and the calls to the environment. -/
namespace Sys2Proof.Machine

/-! ### Memory -/

/-- The byte at an index, if it holds one. -/
def Memory.read : Memory → Nat → Option Byte
  | [], _ => none
  | (k, v) :: m, a => if k = a then some v else Memory.read m a

/-- The memory with byte `v` at index `a`, indices still rising. -/
def Memory.write : Memory → Nat → Byte → Memory
  | [], a, v => [(a, v)]
  | (k, w) :: m, a, v =>
    if a < k then (a, v) :: (k, w) :: m
    else if a = k then (a, v) :: m
    else (k, w) :: Memory.write m a v

/-- A memory that holds `v` at every index below `n`. -/
def Memory.fill (n : Nat) (v : Byte) : Memory := (List.range n).map fun a => (a, v)

/-- A memory that holds the given bytes from index `a` on. -/
def Memory.ofBytes (a : Nat) : List Byte → Memory
  | [] => []
  | v :: vs => (a, v) :: Memory.ofBytes (a + 1) vs

/-- Writes `v` at the `n` indices from `a` on, in rising order. -/
def Memory.writeRun (m : Memory) (a : Nat) (v : Byte) : Nat → Memory
  | 0 => m
  | n + 1 => Memory.writeRun (m.write a v) (a + 1) v n

/-- The `n` bytes from index `a` on, or the first of these indices that holds no byte. -/
def Memory.readRun (m : Memory) (a : Nat) : Nat → Except Nat (List Byte)
  | 0 => .ok []
  | n + 1 =>
    match m.read a with
    | none => .error a
    | some v =>
      match Memory.readRun m (a + 1) n with
      | .ok vs => .ok (v :: vs)
      | .error e => .error e

/-- The contents of a space. -/
def State.mem (s : State) : Space → Memory
  | .line => s.line
  | .bmp => s.bmp
  | .arg => s.arg
  | .xlat => s.xlat
  | .lglyph => s.lglyph
  | .pglyph => s.pglyph

/-- The byte at an index of a space, if it holds one: what statements about memory read through. -/
def State.readByte (s : State) (sp : Space) (a : Nat) : Option Byte := (s.mem sp).read a

/-- `MemRead(S, a, 1)` on a buffer (spec/00_scope.md R11, spec/20_memory.md R50). -/
def memRead (s : State) (sp : Space) (a : Nat) : Except Fault Byte :=
  if a < sp.size s.cfg then
    match s.readByte sp a with
    | some v => .ok v
    | none => .error (.readUnwritten sp a)
  else .error (.indexOutOfRange sp a)

/-- `MemWrite(LINE, a, 1, v)`, and then the rest of the instruction (R11, R50). -/
def writeLine (s : State) (a : Nat) (v : Byte) (andThen : State → Host.Outcome State Fault Refusal) :
    Host.Outcome State Fault Refusal :=
  if a < Space.line.size s.cfg then andThen { s with line := s.line.write a v }
  else .fault (.indexOutOfRange .line a)

/-- `MemWrite(BMP, a, 1, v)`, and then the rest of the instruction (R11, R50). -/
def writeBmp (s : State) (a : Nat) (v : Byte) (andThen : State → Host.Outcome State Fault Refusal) :
    Host.Outcome State Fault Refusal :=
  if a < Space.bmp.size s.cfg then andThen { s with bmp := s.bmp.write a v }
  else .fault (.indexOutOfRange .bmp a)

/-! ### Reset, exceptions, return -/

/-- `do_reset` (spec/10_state.md R45). The registers and buffers R46 calls unspecified afterwards keep their values, for all four
causes of R250: the model's choice (DESIGN CHOICE, log entry 16). -/
def doReset (s : State) : State :=
  { s with
    phase := .idle
    openState := .nothing
    pendingErr := s.cfg.errDefault
    font := .c64Upper
    lineLen := 0
    crit := false }

/-- Records an observable event. -/
def emit (e : Event) (s : State) : State := { s with trace := s.trace ++ [e] }

/-- `return oc` of `service_cycle` (spec/44_interfaces.md R191, R204): the outcome is written, the cycle is over. -/
def returnCycle (oc : OutcomeCode) (s : State) : State :=
  emit (.returned oc) { s with outcome := oc, svcBusy := false, svcDone := true, stage := .host }

/-- The exceptions of the block (spec/60_exceptions.md R220). -/
inductive Exception where
  | busResetSignaled | busDecodeError | busTransferError
deriving DecidableEq, Repr

/-- Taking an exception (R221, R223, R225, R230): nothing is saved; a bus reset and a decode error run `do_reset` and end the
cycle with their outcome code; a transfer error leaves the listen loop, and the cycle completes as any other. There is no
return instruction (R231): `returnCycle` and the normal completion end the cycle. -/
def takeException (e : Exception) (s : State) : State :=
  match e with
  | .busResetSignaled => returnCycle .reset (doReset s)
  | .busDecodeError => returnCycle .error (doReset s)
  | .busTransferError => { s with stage := .complete }

/-- The outcome code of a completed transaction: its attention result (spec/40_dispatch.md R106, spec/30_encoding.md R79; a
reserved result is reported as `ERROR`). -/
def outcomeOfRes (res : BitVec 3) : OutcomeCode :=
  match res.toNat with
  | 0 => .idle
  | 1 => .talk
  | 2 => .listen
  | 3 => .command
  | _ => .error

/-- Normal completion (R106): `phase <- IDLE`, `outcome <- cmd_res`, return. -/
def completeCycle (s : State) : State := returnCycle (outcomeOfRes s.cmdRes) { s with phase := .idle }

/-- The hardware reset `rst` (spec/44_interfaces.md R200, R202, spec/70_reset_and_hazards.md R252): `do_reset`, every request
dropped, whatever was being done abandoned. No call is made. What R46 calls unspecified afterwards keeps its value (log entry 16). -/
def hardwareReset (s : State) : State := { doReset s with stage := .host, svcBusy := false, svcDone := false }

/-! ### Calls to the environment -/

/-- `crit <- 1` and the call of `decode_attention()` (spec/40_dispatch.md R100, spec/44_interfaces.md R199). -/
def callDecodeAttention (s : State) : State := emit .decodeAttention { s with crit := true }

/-- `crit <- 1` and the call of `receive()` (spec/41_sessions.md R136, R139, spec/44_interfaces.md R199). -/
def callReceive (s : State) : State := emit .receive { s with crit := true, stage := .rx }

/-- The call of `send` or, for the last byte of the string, `send_final`, with the byte at `txIdx` (spec/41_sessions.md R134). -/
def callSend (s : State) : State :=
  match s.cfg.idString[s.txIdx]? with
  | none => s
  | some b => emit (if s.txIdx + 1 = s.cfg.idLen then .sendFinal b else .send b) s

/-- The call of `print_raster(384, 9, bytes)` (spec/43_render.md R175, spec/30_encoding.md R92). -/
def callPrintRaster (bytes : List Byte) (s : State) : State :=
  emit (.printRaster Config.widthBits Config.bmpRows bytes) { s with stage := .print, prIdx := 0 }

/-- `open_handler(arg, len)` (spec/41_sessions.md R130): accepts the argument and has no effect. -/
def openHandler (_arg : Memory) (_len : Nat) (s : State) : State := s

/-- `close_handler()` (R141): no effect. -/
def closeHandler (s : State) : State := s

/-- The end of one turn of the listen loop (R136): `rx_eod` leaves the loop, otherwise the next `receive()` is called. -/
def endOfTurn (s : State) : State := if s.rxEod then { s with stage := .complete } else callReceive s

end Sys2Proof.Machine
end

