-- ==== Sys2Proof/Machine/Flags.lean ====
section
/-! DEFINITION. The five one-bit flags (spec/10_state.md R25) and the counters that go with them: when each is set and cleared.
`crit` is set by the calls of `Machine/Ops.lean` and cleared by the two latches here. -/
namespace Sys2Proof.Machine

/-- The argument length on its port of `AW` bits (spec/44_interfaces.md R205; log entry 13). -/
def argLenIn (s : State) : Nat := s.pins.atnArgLen % 2 ^ s.cfg.argWidth

/-- Whether an argument length keeps the driver's contract `0 <= arg_len <= ARG_MAX` (R193). -/
def argLenOk (s : State) : Nat → Bool
  | 0 => true
  | n + 1 => decide (n < s.cfg.argMax)

/-- The return of `decode_attention()` with a decoded command (spec/40_dispatch.md R100, R102): the answer is latched, the driver
has filled `ARG` (R193), `crit` is cleared. -/
def latchCommand (d : Dir) (code : Byte) (s : State) : State :=
  { s with
    cmdRes := d.res
    cmdCode := code
    cmdArgLen := argLenIn s
    arg := Memory.ofBytes 0 (s.pins.atnArgs.take s.cfg.argMax)
    crit := false }

/-- The return of `decode_attention()` with `ERROR` or a reserved result (R100, spec/60_exceptions.md R230): the answer is latched
and not read, `ARG` is as it was, `crit` is cleared. -/
def latchError (res : BitVec 3) (code : Byte) (s : State) : State :=
  { s with cmdRes := res, cmdCode := code, cmdArgLen := argLenIn s, crit := false }

/-- The return of `decode_attention()` with `IDLE` (R103): only `cmd_res` is latched (log entry 12), `crit` is cleared. -/
def latchIdle (s : State) : State := { s with cmdRes := 0#3, crit := false }

/-- The return of `receive()` (spec/41_sessions.md R139): the answer is latched into `rx_byte`, `rx_eod`, `rx_err`, `crit` is
cleared. -/
def latchReceive (byte : Byte) (eod err : Bool) (s : State) : State :=
  { s with rxByte := byte, rxEod := eod, rxErr := err, crit := false }

/-- The start of a row scan: `eol`, `rvs`, `skip` cleared, `idx` at 0 (spec/43_render.md R162). -/
def startRowScan (s : State) : State := { s with eol := false, rvs := false, skip := 0, idx := 0, stage := .scan }

/-- `skip <- skip + 1`, before the effect of any non-printable byte (R163). -/
def countSkip (s : State) : State := { s with skip := s.skip + 1 }

/-- `eol <- 1` (R166). -/
def latchEol (s : State) : State := { s with eol := true }

/-- `rvs <- v` (R167, R170). -/
def setRvs (v : Bool) (s : State) : State := { s with rvs := v }

/-- `legacy(font)` (spec/10_state.md R28). -/
def Font.legacy : Font → Bool
  | .c64Upper => true
  | .c64Lower => true
  | .pc => false

/-- A case code: `if legacy(font) then font <- f` (R168, R169). -/
def setCase (f : Font) (s : State) : State := if s.font.legacy then { s with font := f } else s

end Sys2Proof.Machine
end

