-- ==== Sys2Proof/Machine/Operands.lean ====
section
/-! DEFINITION. The operands the core assembles (spec/30_encoding.md R86): the font of a channel, the table reads, the glyph
lookup, the bitmap column and store address, and the order of a render's scan. -/
namespace Sys2Proof.Machine

/-! ### Table reads (spec/20_memory.md R56 to R58): total functions of their address bits -/

/-- `MemRead(XLAT, b, 1)` (R56). -/
def readXlat (s : State) (b : Byte) : Byte := (s.readByte .xlat b.toNat).getD (Config.unpopulated .xlat b.toNat)

/-- `MemRead(LGLYPH, a, 1)`, a 13-bit address (R57). -/
def readLglyph (s : State) (a : BitVec 13) : Byte := (s.readByte .lglyph a.toNat).getD (Config.unpopulated .lglyph a.toNat)

/-- `MemRead(PGLYPH, a, 1)`, an 11-bit address (R58). -/
def readPglyph (s : State) (a : BitVec 11) : Byte := (s.readByte .pglyph a.toNat).getD (Config.unpopulated .pglyph a.toNat)

/-! ### The glyph lookup (spec/43_render.md R165) -/

/-- The legacy glyph index `gi` of a screen code. -/
def glyphIndex (c : Config) (font : Font) (rvs : Bool) (sc : Byte) : Nat :=
  sc.toNat + (if font = .c64Lower then c.variantOffset else 0) + (if rvs then c.reverseOffset else 0)

/-- The legacy glyph address `gi * 8 + row`, 13 bits. -/
def lglyphAddr (gi row : Nat) : BitVec 13 := BitVec.ofNat 13 (gi * Config.glyphBytes + row)

/-- The non-legacy glyph address `zext_11(b) * 8 + row`, 11 bits. -/
def pglyphAddr (b : Byte) (row : Nat) : BitVec 11 := BitVec.ofNat 11 (b.toNat * Config.glyphBytes + row)

/-- `glyph_row(font, rvs, b, row)` (R165): reverse video has no effect on the non-legacy font. -/
def glyphRow (s : State) (font : Font) (rvs : Bool) (b : Byte) (row : Nat) : Byte :=
  match font with
  | .pc => readPglyph s (pglyphAddr b row)
  | .c64Upper => readLglyph s (lglyphAddr (glyphIndex s.cfg .c64Upper rvs (readXlat s b)) row)
  | .c64Lower => readLglyph s (lglyphAddr (glyphIndex s.cfg .c64Lower rvs (readXlat s b)) row)

/-! ### The bitmap address (R171, spec/20_memory.md R52) -/

/-- The index of row `row` and column `col` in `BMP`. -/
def bmpAddr (row col : Nat) : Nat := row * Config.cols + col

/-- `col <- idx - skip`, if that is a natural number (R171: it always is, since `skip <= idx`). -/
def columnOf (s : State) : Option Nat := if s.skip ≤ s.idx then some (s.idx - s.skip) else none

/-- The address a printable byte's glyph byte is stored to. -/
def printAddr (s : State) : Option Nat := (columnOf s).map (bmpAddr s.row)

/-! ### The render's order (R160 to R162) -/

/-- The start of `render(line_len)`: `BMP` is cleared (R161), the scan of row 0 starts (R162). -/
def beginRender (s : State) : State :=
  startRowScan { s with bmp := Memory.fill Config.bmpSize s.cfg.blank, row := 0 }

/-- After a scan operation: the next entry of the line, up to the terminator at `line_len`; then the next row; after row 7 the
render goes on to its padding row (R160, R162). -/
def advanceScan (s : State) : State :=
  if s.idx < s.lineLen then { s with idx := s.idx + 1 }
  else if s.row + 1 < Config.rows then startRowScan { s with row := s.row + 1 }
  else { s with row := s.row + 1, stage := .pad }

/-- A flush with the line at its present length (spec/42_ingest.md R152, R153): the terminator is stored at `LINE[line_len]` and
the render of `LINE[0..line_len]` starts. -/
def flush (s : State) : Host.Outcome State Fault Refusal :=
  writeLine s s.lineLen s.cfg.codeCr fun t => .next (beginRender t)

end Sys2Proof.Machine
end

