-- ==== Sys2Proof/Machine/Attention.lean ====
section
/-! DEFINITION. The service words that decode no command (spec/40_dispatch.md R101, R103, R105, R117): rows RESET, ATN.IDLE,
ATN.ERROR, ATN.RSVD5, ATN.RSVD6, ATN.RSVD7. -/
namespace Sys2Proof.Machine

/-- RESET (R101, spec/60_exceptions.md R221): BusResetSignaled is taken; the rest of the word is not sampled. -/
def execReset (_unused : BitVec 11) (s : State) : Host.Outcome State Fault Refusal :=
  .next (takeException .busResetSignaled s)

/-- ATN.IDLE (R103): `outcome <- IDLE`, return. -/
def execAtnIdle (_unused : Byte) (s : State) : Host.Outcome State Fault Refusal :=
  .next (returnCycle .idle (latchIdle s))

/-- BusDecodeError is taken for the attention result `res` (R105, R117, spec/60_exceptions.md R223). -/
def decodeFailed (res : BitVec 3) (code : Byte) (s : State) : State :=
  takeException .busDecodeError (latchError res code s)

/-- ATN.ERROR (R105). -/
def execAtnError (code : Byte) (s : State) : Host.Outcome State Fault Refusal := .next (decodeFailed 4#3 code s)

/-- ATN.RSVD5 (R117): as ATN.ERROR. -/
def execAtnRsvd5 (code : Byte) (s : State) : Host.Outcome State Fault Refusal := .next (decodeFailed 5#3 code s)

/-- ATN.RSVD6 (R117): as ATN.ERROR. -/
def execAtnRsvd6 (code : Byte) (s : State) : Host.Outcome State Fault Refusal := .next (decodeFailed 6#3 code s)

/-- ATN.RSVD7 (R117): as ATN.ERROR. -/
def execAtnRsvd7 (code : Byte) (s : State) : Host.Outcome State Fault Refusal := .next (decodeFailed 7#3 code s)

end Sys2Proof.Machine
end

