-- ==== Sys2Proof/Machine/Commands.lean ====
section
/-! DEFINITION. The commands with a handler (spec/40_dispatch.md R104, R107 to R111): rows OPEN, CLOSE, DATA, each in the three
directions. The attention answer is latched (R102), `phase` is written once (R104), the handler starts. -/
namespace Sys2Proof.Machine

/-- The attention answer latched and the dispatch made: `phase <- p`, and `st` is where the handler starts (R102, R104). -/
def dispatchCommand (d : Dir) (code : Byte) (p : Phase) (st : Stage) (s : State) : State :=
  { latchCommand d code s with phase := p, stage := st }

/-- OPEN (R107): the open handler with the command's argument; channel and direction do not matter. -/
def openCommand (d : Dir) (chan : Nibble) (s : State) : State :=
  let t := dispatchCommand d (commandCode s.cfg.verbOpen chan) .open .complete s
  openHandler t.arg t.cmdArgLen t

/-- CLOSE (R111): the close handler; channel and direction do not matter. -/
def closeCommand (d : Dir) (chan : Nibble) (s : State) : State :=
  closeHandler (dispatchCommand d (commandCode s.cfg.verbClose chan) .close .complete s)

/-- OPEN.T (R107). -/
def execOpenT (chan : Nibble) (s : State) : Host.Outcome State Fault Refusal := .next (openCommand .talk chan s)

/-- OPEN.L (R107). -/
def execOpenL (chan : Nibble) (s : State) : Host.Outcome State Fault Refusal := .next (openCommand .listen chan s)

/-- OPEN.C (R107). -/
def execOpenC (chan : Nibble) (s : State) : Host.Outcome State Fault Refusal := .next (openCommand .command chan s)

/-- CLOSE.T (R111). -/
def execCloseT (chan : Nibble) (s : State) : Host.Outcome State Fault Refusal := .next (closeCommand .talk chan s)

/-- CLOSE.L (R111). -/
def execCloseL (chan : Nibble) (s : State) : Host.Outcome State Fault Refusal := .next (closeCommand .listen chan s)

/-- CLOSE.C (R111). -/
def execCloseC (chan : Nibble) (s : State) : Host.Outcome State Fault Refusal := .next (closeCommand .command chan s)

/-- DATA.T (R108): on `CH_CMD` the open handler is invoked first, with the empty argument; then, on every channel, the talk
handler sends its first byte (spec/41_sessions.md R134). -/
def execDataT (chan : Nibble) (s : State) : Host.Outcome State Fault Refusal :=
  let t := dispatchCommand .talk (commandCode s.cfg.verbData chan) .dataTalk .talk s
  let u := if chan = s.cfg.chCmd then openHandler t.arg 0 t else t
  .next (callSend { u with txIdx := 0 })

/-- DATA.L (R109): the listen handler; the font selection comes next (spec/41_sessions.md R136). -/
def execDataL (chan : Nibble) (s : State) : Host.Outcome State Fault Refusal :=
  .next (dispatchCommand .listen (commandCode s.cfg.verbData chan) .dataListen .fontSelect s)

/-- DATA.C (R110): the open handler only, with the command's argument. -/
def execDataC (chan : Nibble) (s : State) : Host.Outcome State Fault Refusal :=
  let t := dispatchCommand .command (commandCode s.cfg.verbData chan) .open .complete s
  .next (openHandler t.arg t.cmdArgLen t)

end Sys2Proof.Machine
end

