-- ==== Sys2Proof/Machine/BusLevel.lean ====
section
/-! DEFINITION. The bus-level and the unassigned verbs (spec/40_dispatch.md R112 to R116): rows LISTEN, UNLISTEN, TALK, UNTALK,
RSVDn, each in the three directions. No action: the answer is latched and `phase <- BUS_LEVEL`. -/
namespace Sys2Proof.Machine

/-- No action (R112, R116): the command code is the verb with the low four bits. -/
def busLevel (d : Dir) (verb low : Nibble) (s : State) : State :=
  dispatchCommand d (commandCode verb low) .busLevel .complete s

/-- LISTEN.T (R112). -/
def execListenT (dev : Nibble) (s : State) : Host.Outcome State Fault Refusal :=
  .next (busLevel .talk s.cfg.verbListenLo dev s)

/-- LISTEN.T.hi (R112). -/
def execListenTHi (dev : Nibble) (s : State) : Host.Outcome State Fault Refusal :=
  .next (busLevel .talk s.cfg.verbListenHi dev s)

/-- UNLISTEN.T (R113). -/
def execUnlistenT (s : State) : Host.Outcome State Fault Refusal :=
  .next (busLevel .talk s.cfg.verbListenHi 0xF#4 s)

/-- TALK.T (R114). -/
def execTalkT (dev : Nibble) (s : State) : Host.Outcome State Fault Refusal :=
  .next (busLevel .talk s.cfg.verbTalkLo dev s)

/-- TALK.T.hi (R114). -/
def execTalkTHi (dev : Nibble) (s : State) : Host.Outcome State Fault Refusal :=
  .next (busLevel .talk s.cfg.verbTalkHi dev s)

/-- UNTALK.T (R115). -/
def execUntalkT (s : State) : Host.Outcome State Fault Refusal :=
  .next (busLevel .talk s.cfg.verbTalkHi 0xF#4 s)

/-- RSVD0.T (R116). -/
def execRsvd0T (low : Nibble) (s : State) : Host.Outcome State Fault Refusal :=
  .next (busLevel .talk (s.cfg.unassignedVerb 0) low s)

/-- RSVD1.T (R116). -/
def execRsvd1T (low : Nibble) (s : State) : Host.Outcome State Fault Refusal :=
  .next (busLevel .talk (s.cfg.unassignedVerb 1) low s)

/-- RSVD7.T (R116). -/
def execRsvd7T (low : Nibble) (s : State) : Host.Outcome State Fault Refusal :=
  .next (busLevel .talk (s.cfg.unassignedVerb 2) low s)

/-- RSVD8.T (R116). -/
def execRsvd8T (low : Nibble) (s : State) : Host.Outcome State Fault Refusal :=
  .next (busLevel .talk (s.cfg.unassignedVerb 3) low s)

/-- RSVD9.T (R116). -/
def execRsvd9T (low : Nibble) (s : State) : Host.Outcome State Fault Refusal :=
  .next (busLevel .talk (s.cfg.unassignedVerb 4) low s)

/-- RSVDA.T (R116). -/
def execRsvdAT (low : Nibble) (s : State) : Host.Outcome State Fault Refusal :=
  .next (busLevel .talk (s.cfg.unassignedVerb 5) low s)

/-- RSVDB.T (R116). -/
def execRsvdBT (low : Nibble) (s : State) : Host.Outcome State Fault Refusal :=
  .next (busLevel .talk (s.cfg.unassignedVerb 6) low s)

/-- RSVDC.T (R116). -/
def execRsvdCT (low : Nibble) (s : State) : Host.Outcome State Fault Refusal :=
  .next (busLevel .talk (s.cfg.unassignedVerb 7) low s)

/-- RSVDD.T (R116). -/
def execRsvdDT (low : Nibble) (s : State) : Host.Outcome State Fault Refusal :=
  .next (busLevel .talk (s.cfg.unassignedVerb 8) low s)

/-- LISTEN.L (R112). -/
def execListenL (dev : Nibble) (s : State) : Host.Outcome State Fault Refusal :=
  .next (busLevel .listen s.cfg.verbListenLo dev s)

/-- LISTEN.L.hi (R112). -/
def execListenLHi (dev : Nibble) (s : State) : Host.Outcome State Fault Refusal :=
  .next (busLevel .listen s.cfg.verbListenHi dev s)

/-- UNLISTEN.L (R113). -/
def execUnlistenL (s : State) : Host.Outcome State Fault Refusal :=
  .next (busLevel .listen s.cfg.verbListenHi 0xF#4 s)

/-- TALK.L (R114). -/
def execTalkL (dev : Nibble) (s : State) : Host.Outcome State Fault Refusal :=
  .next (busLevel .listen s.cfg.verbTalkLo dev s)

/-- TALK.L.hi (R114). -/
def execTalkLHi (dev : Nibble) (s : State) : Host.Outcome State Fault Refusal :=
  .next (busLevel .listen s.cfg.verbTalkHi dev s)

/-- UNTALK.L (R115). -/
def execUntalkL (s : State) : Host.Outcome State Fault Refusal :=
  .next (busLevel .listen s.cfg.verbTalkHi 0xF#4 s)

/-- RSVD0.L (R116). -/
def execRsvd0L (low : Nibble) (s : State) : Host.Outcome State Fault Refusal :=
  .next (busLevel .listen (s.cfg.unassignedVerb 0) low s)

/-- RSVD1.L (R116). -/
def execRsvd1L (low : Nibble) (s : State) : Host.Outcome State Fault Refusal :=
  .next (busLevel .listen (s.cfg.unassignedVerb 1) low s)

/-- RSVD7.L (R116). -/
def execRsvd7L (low : Nibble) (s : State) : Host.Outcome State Fault Refusal :=
  .next (busLevel .listen (s.cfg.unassignedVerb 2) low s)

/-- RSVD8.L (R116). -/
def execRsvd8L (low : Nibble) (s : State) : Host.Outcome State Fault Refusal :=
  .next (busLevel .listen (s.cfg.unassignedVerb 3) low s)

/-- RSVD9.L (R116). -/
def execRsvd9L (low : Nibble) (s : State) : Host.Outcome State Fault Refusal :=
  .next (busLevel .listen (s.cfg.unassignedVerb 4) low s)

/-- RSVDA.L (R116). -/
def execRsvdAL (low : Nibble) (s : State) : Host.Outcome State Fault Refusal :=
  .next (busLevel .listen (s.cfg.unassignedVerb 5) low s)

/-- RSVDB.L (R116). -/
def execRsvdBL (low : Nibble) (s : State) : Host.Outcome State Fault Refusal :=
  .next (busLevel .listen (s.cfg.unassignedVerb 6) low s)

/-- RSVDC.L (R116). -/
def execRsvdCL (low : Nibble) (s : State) : Host.Outcome State Fault Refusal :=
  .next (busLevel .listen (s.cfg.unassignedVerb 7) low s)

/-- RSVDD.L (R116). -/
def execRsvdDL (low : Nibble) (s : State) : Host.Outcome State Fault Refusal :=
  .next (busLevel .listen (s.cfg.unassignedVerb 8) low s)

/-- LISTEN.C (R112). -/
def execListenC (dev : Nibble) (s : State) : Host.Outcome State Fault Refusal :=
  .next (busLevel .command s.cfg.verbListenLo dev s)

/-- LISTEN.C.hi (R112). -/
def execListenCHi (dev : Nibble) (s : State) : Host.Outcome State Fault Refusal :=
  .next (busLevel .command s.cfg.verbListenHi dev s)

/-- UNLISTEN.C (R113). -/
def execUnlistenC (s : State) : Host.Outcome State Fault Refusal :=
  .next (busLevel .command s.cfg.verbListenHi 0xF#4 s)

/-- TALK.C (R114). -/
def execTalkC (dev : Nibble) (s : State) : Host.Outcome State Fault Refusal :=
  .next (busLevel .command s.cfg.verbTalkLo dev s)

/-- TALK.C.hi (R114). -/
def execTalkCHi (dev : Nibble) (s : State) : Host.Outcome State Fault Refusal :=
  .next (busLevel .command s.cfg.verbTalkHi dev s)

/-- UNTALK.C (R115). -/
def execUntalkC (s : State) : Host.Outcome State Fault Refusal :=
  .next (busLevel .command s.cfg.verbTalkHi 0xF#4 s)

/-- RSVD0.C (R116). -/
def execRsvd0C (low : Nibble) (s : State) : Host.Outcome State Fault Refusal :=
  .next (busLevel .command (s.cfg.unassignedVerb 0) low s)

/-- RSVD1.C (R116). -/
def execRsvd1C (low : Nibble) (s : State) : Host.Outcome State Fault Refusal :=
  .next (busLevel .command (s.cfg.unassignedVerb 1) low s)

/-- RSVD7.C (R116). -/
def execRsvd7C (low : Nibble) (s : State) : Host.Outcome State Fault Refusal :=
  .next (busLevel .command (s.cfg.unassignedVerb 2) low s)

/-- RSVD8.C (R116). -/
def execRsvd8C (low : Nibble) (s : State) : Host.Outcome State Fault Refusal :=
  .next (busLevel .command (s.cfg.unassignedVerb 3) low s)

/-- RSVD9.C (R116). -/
def execRsvd9C (low : Nibble) (s : State) : Host.Outcome State Fault Refusal :=
  .next (busLevel .command (s.cfg.unassignedVerb 4) low s)

/-- RSVDA.C (R116). -/
def execRsvdAC (low : Nibble) (s : State) : Host.Outcome State Fault Refusal :=
  .next (busLevel .command (s.cfg.unassignedVerb 5) low s)

/-- RSVDB.C (R116). -/
def execRsvdBC (low : Nibble) (s : State) : Host.Outcome State Fault Refusal :=
  .next (busLevel .command (s.cfg.unassignedVerb 6) low s)

/-- RSVDC.C (R116). -/
def execRsvdCC (low : Nibble) (s : State) : Host.Outcome State Fault Refusal :=
  .next (busLevel .command (s.cfg.unassignedVerb 7) low s)

/-- RSVDD.C (R116). -/
def execRsvdDC (low : Nibble) (s : State) : Host.Outcome State Fault Refusal :=
  .next (busLevel .command (s.cfg.unassignedVerb 8) low s)

end Sys2Proof.Machine
end

