-- ==== Sys2Proof/Machine/FontSelect.lean ====
section
/-! DEFINITION. The font selection of a listen session (spec/41_sessions.md R137, spec/30_encoding.md R85): rows FS.UPPER, FS.PC,
FS.LOWER, FS.DEFAULT. The buffer reset of the session comes next (R138). -/
namespace Sys2Proof.Machine

/-- `font <- f`, at the start of a listen session. -/
def selectFont (f : Font) (s : State) : State := { s with font := f, stage := .openSession }

/-- FS.UPPER: channel 0 (R137). -/
def execFsUpper (s : State) : Host.Outcome State Fault Refusal := .next (selectFont .c64Upper s)

/-- FS.PC: channel 1 (R137). -/
def execFsPc (s : State) : Host.Outcome State Fault Refusal := .next (selectFont .pc s)

/-- FS.LOWER: channel 7 (R137). -/
def execFsLower (s : State) : Host.Outcome State Fault Refusal := .next (selectFont .c64Lower s)

/-- FS.DEFAULT: any other channel (R137). -/
def execFsDefault (_chan : Nibble) (s : State) : Host.Outcome State Fault Refusal := .next (selectFont .c64Upper s)

end Sys2Proof.Machine
end

