-- ==== Sys2Proof/Machine/HostRequests.lean ====
section
/-! DEFINITION. The host requests (spec/44_interfaces.md R190, R191, R200, R204): rows INITIALIZE, SERVICE_CYCLE, HOST.NONE. -/
namespace Sys2Proof.Machine

/-- INITIALIZE (R200): `do_reset`. A simultaneous `svc_start_i` is ignored (R204). -/
def execHostInit (_start : Bool) (s : State) : Host.Outcome State Fault Refusal := .next (doReset s)

/-- The reset poll (R192, R205): `detect_reset()`, sampled at the edge that accepts the request, when the platform has the line
(`HAS_RESET_LINE`). -/
def pollReset (s : State) : Bool := s.cfg.hasResetLine && s.pins.drvReset

/-- SERVICE_CYCLE (R191, R204, spec/40_dispatch.md R100): the cycle starts with the reset poll; unless it answers true,
`decode_attention()` is called. The service word selects the operation of the cycle next. -/
def execHostServiceCycle (s : State) : Host.Outcome State Fault Refusal :=
  let t := { s with svcBusy := true, stage := .sw, pollR := pollReset s }
  let u := if s.cfg.hasResetLine then emit .detectReset t else t
  .next (if pollReset s then u else callDecodeAttention u)

/-- HOST.NONE (R204): no request is sampled, nothing happens. -/
def execHostNone (s : State) : Host.Outcome State Fault Refusal := .next s

end Sys2Proof.Machine
end

