-- ==== Sys2Proof/Machine/Ingest.lean ====
section
/-! DEFINITION. The ingest operations (spec/42_ingest.md R150 to R153): rows ING.CHAR and ING.CR. -/
namespace Sys2Proof.Machine

/-- ING.CHAR (R151, R152): the byte is appended; the 48th entry forces a flush with a synthetic carriage return. -/
def execIngChar (b : Byte) (s : State) : Host.Outcome State Fault Refusal :=
  writeLine s s.lineLen b fun t =>
    let u := { t with lineLen := t.lineLen + 1 }
    if u.lineLen = Config.cols then flush u else .next (endOfTurn u)

/-- ING.CR (R153): the line is flushed, even if it is empty. -/
def execIngCr (s : State) : Host.Outcome State Fault Refusal := flush s

end Sys2Proof.Machine
end

