-- ==== Sys2Proof/Machine/Receive.lean ====
section
/-! DEFINITION. The receive answers of a listen session (spec/41_sessions.md R139 to R144): rows RX.MORE, RX.LAST, RX.ERR. -/
namespace Sys2Proof.Machine

/-- RX.MORE (R142): the answer is latched, the byte is ingested next; `rx_eod = 0` sends the loop round again. -/
def execRxMore (byte : Byte) (s : State) : Host.Outcome State Fault Refusal :=
  .next { latchReceive byte false false s with stage := .ingest }

/-- RX.LAST (R143): as RX.MORE; `rx_eod = 1` leaves the loop after the ingest. -/
def execRxLast (byte : Byte) (s : State) : Host.Outcome State Fault Refusal :=
  .next { latchReceive byte true false s with stage := .ingest }

/-- RX.ERR (R144, spec/60_exceptions.md R225): BusTransferError is taken; the byte is not ingested. -/
def execRxErr (eod : Bool) (byte : Byte) (s : State) : Host.Outcome State Fault Refusal :=
  .next (takeException .busTransferError (latchReceive byte eod true s))

end Sys2Proof.Machine
end

