-- ==== Sys2Proof/Machine/Scan.lean ====
section
/-! DEFINITION. The scan operations (spec/43_render.md R162 to R172): rows SCAN.PRINT, SCAN.CR, SCAN.RVS_ON, SCAN.RVS_OFF,
SCAN.CASE_LOWER, SCAN.CASE_UPPER, SCAN.CTRL. Each ends with the step to the next entry, row or piece of the render. -/
namespace Sys2Proof.Machine

/-- SCAN.PRINT (R164): unless end-of-line is latched, the glyph byte goes to the printable byte's column. -/
def scanPrint (b : Byte) (s : State) : Host.Outcome State Fault Refusal :=
  if s.eol then .next (advanceScan s)
  else match printAddr s with
    | none => .fault (.noColumn s.idx s.skip)
    | some a => writeBmp s a (glyphRow s s.font s.rvs b s.row) fun t => .next (advanceScan t)

/-- SCAN.PRINT.20 (R164). -/
def execScanPrint20 (b : Byte) (s : State) : Host.Outcome State Fault Refusal := scanPrint b s

/-- SCAN.PRINT.40 (R164). -/
def execScanPrint40 (b : Byte) (s : State) : Host.Outcome State Fault Refusal := scanPrint b s

/-- SCAN.PRINT.A0 (R164). -/
def execScanPrintA0 (b : Byte) (s : State) : Host.Outcome State Fault Refusal := scanPrint b s

/-- SCAN.PRINT.C0 (R164). -/
def execScanPrintC0 (b : Byte) (s : State) : Host.Outcome State Fault Refusal := scanPrint b s

/-- SCAN.CR (R166). -/
def execScanCr (s : State) : Host.Outcome State Fault Refusal := .next (advanceScan (latchEol (countSkip s)))

/-- SCAN.RVS_ON (R167). -/
def execScanRvsOn (s : State) : Host.Outcome State Fault Refusal := .next (advanceScan (setRvs true (countSkip s)))

/-- SCAN.RVS_OFF (R170). -/
def execScanRvsOff (s : State) : Host.Outcome State Fault Refusal := .next (advanceScan (setRvs false (countSkip s)))

/-- SCAN.CASE_LOWER (R168). -/
def execScanCaseLower (s : State) : Host.Outcome State Fault Refusal := .next (advanceScan (setCase .c64Lower (countSkip s)))

/-- SCAN.CASE_UPPER (R169). -/
def execScanCaseUpper (s : State) : Host.Outcome State Fault Refusal := .next (advanceScan (setCase .c64Upper (countSkip s)))

/-- SCAN.CTRL.00 (R172): the code is skipped. -/
def execScanCtrl00 (_b : Byte) (s : State) : Host.Outcome State Fault Refusal := .next (advanceScan (countSkip s))

/-- SCAN.CTRL.80 (R172): the code is skipped. -/
def execScanCtrl80 (_b : Byte) (s : State) : Host.Outcome State Fault Refusal := .next (advanceScan (countSkip s))

end Sys2Proof.Machine
end

