-- ==== Sys2Proof/Machine/Dispatch.lean ====
section
/-! DEFINITION. The dispatch: one arm per constructor of Instr, one direct call of its meaning. -/
namespace Sys2Proof.Machine

def exec (i : Instr) (s : State) : Host.Outcome State Fault Refusal :=
  match i with
  | .reset unused => Sys2Proof.Machine.execReset unused s
  | .atnIdle unused => Sys2Proof.Machine.execAtnIdle unused s
  | .atnError unused => Sys2Proof.Machine.execAtnError unused s
  | .atnRsvd5 unused => Sys2Proof.Machine.execAtnRsvd5 unused s
  | .atnRsvd6 unused => Sys2Proof.Machine.execAtnRsvd6 unused s
  | .atnRsvd7 unused => Sys2Proof.Machine.execAtnRsvd7 unused s
  | .openT chan => Sys2Proof.Machine.execOpenT chan s
  | .closeT chan => Sys2Proof.Machine.execCloseT chan s
  | .dataT chan => Sys2Proof.Machine.execDataT chan s
  | .listenT dev => Sys2Proof.Machine.execListenT dev s
  | .listenTHi dev => Sys2Proof.Machine.execListenTHi dev s
  | .unlistenT => Sys2Proof.Machine.execUnlistenT s
  | .talkT dev => Sys2Proof.Machine.execTalkT dev s
  | .talkTHi dev => Sys2Proof.Machine.execTalkTHi dev s
  | .untalkT => Sys2Proof.Machine.execUntalkT s
  | .rsvd0T low => Sys2Proof.Machine.execRsvd0T low s
  | .rsvd1T low => Sys2Proof.Machine.execRsvd1T low s
  | .rsvd7T low => Sys2Proof.Machine.execRsvd7T low s
  | .rsvd8T low => Sys2Proof.Machine.execRsvd8T low s
  | .rsvd9T low => Sys2Proof.Machine.execRsvd9T low s
  | .rsvdAT low => Sys2Proof.Machine.execRsvdAT low s
  | .rsvdBT low => Sys2Proof.Machine.execRsvdBT low s
  | .rsvdCT low => Sys2Proof.Machine.execRsvdCT low s
  | .rsvdDT low => Sys2Proof.Machine.execRsvdDT low s
  | .openL chan => Sys2Proof.Machine.execOpenL chan s
  | .closeL chan => Sys2Proof.Machine.execCloseL chan s
  | .dataL chan => Sys2Proof.Machine.execDataL chan s
  | .listenL dev => Sys2Proof.Machine.execListenL dev s
  | .listenLHi dev => Sys2Proof.Machine.execListenLHi dev s
  | .unlistenL => Sys2Proof.Machine.execUnlistenL s
  | .talkL dev => Sys2Proof.Machine.execTalkL dev s
  | .talkLHi dev => Sys2Proof.Machine.execTalkLHi dev s
  | .untalkL => Sys2Proof.Machine.execUntalkL s
  | .rsvd0L low => Sys2Proof.Machine.execRsvd0L low s
  | .rsvd1L low => Sys2Proof.Machine.execRsvd1L low s
  | .rsvd7L low => Sys2Proof.Machine.execRsvd7L low s
  | .rsvd8L low => Sys2Proof.Machine.execRsvd8L low s
  | .rsvd9L low => Sys2Proof.Machine.execRsvd9L low s
  | .rsvdAL low => Sys2Proof.Machine.execRsvdAL low s
  | .rsvdBL low => Sys2Proof.Machine.execRsvdBL low s
  | .rsvdCL low => Sys2Proof.Machine.execRsvdCL low s
  | .rsvdDL low => Sys2Proof.Machine.execRsvdDL low s
  | .openC chan => Sys2Proof.Machine.execOpenC chan s
  | .closeC chan => Sys2Proof.Machine.execCloseC chan s
  | .dataC chan => Sys2Proof.Machine.execDataC chan s
  | .listenC dev => Sys2Proof.Machine.execListenC dev s
  | .listenCHi dev => Sys2Proof.Machine.execListenCHi dev s
  | .unlistenC => Sys2Proof.Machine.execUnlistenC s
  | .talkC dev => Sys2Proof.Machine.execTalkC dev s
  | .talkCHi dev => Sys2Proof.Machine.execTalkCHi dev s
  | .untalkC => Sys2Proof.Machine.execUntalkC s
  | .rsvd0C low => Sys2Proof.Machine.execRsvd0C low s
  | .rsvd1C low => Sys2Proof.Machine.execRsvd1C low s
  | .rsvd7C low => Sys2Proof.Machine.execRsvd7C low s
  | .rsvd8C low => Sys2Proof.Machine.execRsvd8C low s
  | .rsvd9C low => Sys2Proof.Machine.execRsvd9C low s
  | .rsvdAC low => Sys2Proof.Machine.execRsvdAC low s
  | .rsvdBC low => Sys2Proof.Machine.execRsvdBC low s
  | .rsvdCC low => Sys2Proof.Machine.execRsvdCC low s
  | .rsvdDC low => Sys2Proof.Machine.execRsvdDC low s
  | .rxMore byte => Sys2Proof.Machine.execRxMore byte s
  | .rxLast byte => Sys2Proof.Machine.execRxLast byte s
  | .rxErr eod byte => Sys2Proof.Machine.execRxErr eod byte s
  | .ingCr => Sys2Proof.Machine.execIngCr s
  | .ingChar b => Sys2Proof.Machine.execIngChar b s
  | .scanPrint20 b => Sys2Proof.Machine.execScanPrint20 b s
  | .scanPrint40 b => Sys2Proof.Machine.execScanPrint40 b s
  | .scanPrintA0 b => Sys2Proof.Machine.execScanPrintA0 b s
  | .scanPrintC0 b => Sys2Proof.Machine.execScanPrintC0 b s
  | .scanCr => Sys2Proof.Machine.execScanCr s
  | .scanRvsOn => Sys2Proof.Machine.execScanRvsOn s
  | .scanRvsOff => Sys2Proof.Machine.execScanRvsOff s
  | .scanCaseLower => Sys2Proof.Machine.execScanCaseLower s
  | .scanCaseUpper => Sys2Proof.Machine.execScanCaseUpper s
  | .scanCtrl00 b => Sys2Proof.Machine.execScanCtrl00 b s
  | .scanCtrl80 b => Sys2Proof.Machine.execScanCtrl80 b s
  | .fsUpper => Sys2Proof.Machine.execFsUpper s
  | .fsPc => Sys2Proof.Machine.execFsPc s
  | .fsLower => Sys2Proof.Machine.execFsLower s
  | .fsDefault chan => Sys2Proof.Machine.execFsDefault chan s
  | .hostInit start => Sys2Proof.Machine.execHostInit start s
  | .hostServiceCycle => Sys2Proof.Machine.execHostServiceCycle s
  | .hostNone => Sys2Proof.Machine.execHostNone s

end Sys2Proof.Machine
end

