-- ==== Sys2Proof/Machine/Sequence.lean ====
section
/-! DEFINITION. The pieces of the handlers that have no row of the opcode table: what a step does where it takes no instruction. -/
namespace Sys2Proof.Machine

/-- The buffer reset of a listen session and its first `receive()` (spec/41_sessions.md R136, R138). -/
def openSession (s : State) : State := callReceive { s with lineLen := 0 }

/-- The driver has taken the byte at `txIdx` (spec/41_sessions.md R134, spec/44_interfaces.md R203, R205): the next byte is sent,
or the handler returns. -/
def sendTaken (s : State) : State :=
  let t := { s with txIdx := s.txIdx + 1 }
  if t.txIdx < s.cfg.idLen then callSend t else { t with stage := .complete }

/-- The padding row and the hand-over (spec/43_render.md R173, R175): row 8 is written `BLANK`, and the 432 bytes go out in index
order. -/
def padAndPrint (s : State) : Host.Outcome State Fault Refusal :=
  let t := { s with bmp := s.bmp.writeRun (bmpAddr Config.rows 0) s.cfg.blank Config.cols }
  match t.bmp.readRun 0 Config.bmpSize with
  | .ok bytes => .next (callPrintRaster bytes t)
  | .error a => .fault (.readUnwritten .bmp a)

/-- `print_raster` has returned (spec/43_render.md R175): the buffer is reset (spec/42_ingest.md R152, R153) and the turn of the listen loop
ends. -/
def printReturned (s : State) : State := endOfTurn { s with lineLen := 0 }

end Sys2Proof.Machine
end

