-- ==== Sys2Proof/Machine/Fetch.lean ====
section
/-! DEFINITION. What comes next at each stage: the word of the next instruction, a piece of a handler, or a call that has not
returned at this edge. -/
namespace Sys2Proof.Machine

/-- What a step finds at the core's stage. -/
inductive Fetched where
  /-- the word of the next instruction -/
  | word (f : Format) (w : Nat)
  /-- a piece of a handler, done in this step -/
  | piece (o : Host.Outcome State Fault Refusal)
  /-- the call has not returned at this edge -/
  | waiting (call : CallName)
deriving Repr

/-- The input ports sampled at the next edge: the head of the tape, or all 0 where the tape has ended (log entry 2). `svc_done_o`
is 1 for one edge only (spec/44_interfaces.md R204). -/
def sample (s : State) : State :=
  match s.tape with
  | [] => { s with pins := {}, svcDone := false }
  | p :: rest => { s with pins := p, tape := rest, svcDone := false }

/-- Whether the driver's answer carries an argument that breaks its contract: only a decoded command has an argument (spec/44_interfaces.md R193,
spec/93_implementation_defined.md U10, U11). -/
def breaksContract (s : State) : Bool :=
  match s.pins.atnRes.toNat with
  | 1 => !argLenOk s (argLenIn s)
  | 2 => !argLenOk s (argLenIn s)
  | 3 => !argLenOk s (argLenIn s)
  | _ => false

/-- At the service word (spec/40_dispatch.md R100, spec/30_encoding.md R76): with `R = 1` at once; else when `decode_attention()`
returns. -/
def fetchServiceWord (s : State) : Fetched :=
  if s.pollR then .word .sw (serviceWord true s.pins.atnRes s.pins.atnCode)
  else if !s.pins.atnAck then .waiting .decodeAttention
  else if breaksContract s then .piece (.refused (.argumentTooLong (argLenIn s)))
  else .word .sw (serviceWord false s.pins.atnRes s.pins.atnCode)

/-- In the talk handler (spec/41_sessions.md R134): the byte at `txIdx` is offered until the driver takes it. -/
def fetchTalk (s : State) : Fetched :=
  match s.cfg.idString[s.txIdx]? with
  | none => .piece (.fault (.noReplyByte s.txIdx))
  | some _ =>
    if s.pins.txReady then .piece (.next (sendTaken s))
    else .waiting (if s.txIdx + 1 = s.cfg.idLen then .sendFinal else .send)

/-- In a row scan: the byte at `LINE[idx]` (spec/43_render.md R162). -/
def fetchScan (s : State) : Fetched :=
  match memRead s .line s.idx with
  | .ok b => .word .dbScan b.toNat
  | .error e => .piece (.fault e)

/-- In `print_raster` (spec/44_interfaces.md R207): the transport takes the bitmap bytes one by one, then acknowledges the call. -/
def fetchPrint (s : State) : Fetched :=
  if s.prIdx < Config.bmpSize then
    if s.pins.prReady then .piece (.next { s with prIdx := s.prIdx + 1 }) else .waiting .printRaster
  else if s.pins.prAck then .piece (.next (printReturned s))
  else .waiting .printRaster

/-- What comes next at the core's stage. -/
def fetch (s : State) : Fetched :=
  match s.stage with
  | .host => .word .host (hostWord s.pins.init s.pins.svcStart)
  | .sw => fetchServiceWord s
  | .talk => fetchTalk s
  | .fontSelect => .word .fs (chanOf s.cmdCode).toNat
  | .openSession => .piece (.next (openSession s))
  | .rx =>
    if s.pins.rxAck then .word .rxa (receiveWord s.pins.rxErr s.pins.rxEod s.pins.rxData) else .waiting .receive
  | .ingest => .word .dbIng s.rxByte.toNat
  | .scan => fetchScan s
  | .pad => .piece (padAndPrint s)
  | .print => fetchPrint s
  | .complete => .piece (.next (completeCycle s))

/-- A sample that answers `decode_attention()` with the attention result and code of a service word. -/
def attentionSample (w : Nat) : Pins :=
  { atnAck := true, atnRes := BitVec.ofNat 3 (w / 256), atnCode := BitVec.ofNat 8 w }

/-- A sample that answers `receive()` with a receive answer. -/
def receiveSample (w : Nat) : Pins :=
  { rxAck := true, rxErr := decide (512 ≤ w), rxEod := decide (w / 256 % 2 = 1), rxData := BitVec.ofNat 8 w }

/-- A sample of the host request. -/
def hostSample (w : Nat) : Pins := { init := decide (2 ≤ w), svcStart := decide (w % 2 = 1) }

/-- The state in which the next step takes word `w` of format `f` (log entries 2, 7). -/
def placeWord (s : State) (f : Format) (w : Nat) : State :=
  match f with
  | .sw => { s with stage := .sw, pollR := decide (2048 ≤ w), tape := attentionSample w :: s.tape }
  | .rxa => { s with stage := .rx, tape := receiveSample w :: s.tape }
  | .dbIng => { s with stage := .ingest, rxByte := BitVec.ofNat 8 w }
  | .dbScan => { s with stage := .scan, line := s.line.write s.idx (BitVec.ofNat 8 w) }
  | .fs => { s with stage := .fontSelect, cmdCode := BitVec.ofNat 8 w }
  | .host => { s with stage := .host, tape := hostSample w :: s.tape }

end Sys2Proof.Machine
end

