-- ==== Sys2Proof/Machine/Step.lean ====
section
/-! DEFINITION. One step: one edge of the clock (spec/44_interfaces.md R202). The inputs are sampled; `rst` acts whatever the core
is doing (spec/70_reset_and_hazards.md R252); else the core takes what comes next at its stage. -/
namespace Sys2Proof.Machine

/-- What the core does at an edge whose inputs have been sampled. `more` says whether the environment gave a sample at this
edge: a call that has not returned waits for the next one, and is stuck for ever where there is none
(spec/60_exceptions.md R241; log entry 3). -/
def advance (more : Bool) (s : State) : Host.Outcome State Fault Refusal :=
  match fetch s with
  | .word f w =>
    match decode s.cfg f w with
    | .ok i => exec i s
    | .error (.wordTooWide f w) => .refused (.undecodable f w)
  | .piece o => o
  | .waiting call => if more then .next s else .fault (.stuck call)

/-- One step of the machine. -/
def step (s : State) : Host.Outcome State Fault Refusal :=
  let t := sample s
  if t.pins.rst then .next (hardwareReset t) else advance (!s.tape.isEmpty) t

/-- `s` with a table word placed where the next step takes its instruction. A size that is no format's changes nothing. -/
def State.withFetchWord (s : State) (nbits w : Nat) : State :=
  match tableFormat nbits with
  | none => s
  | some f => placeWord s f w

end Sys2Proof.Machine
end

