-- ==== Sys2Proof/Machine/Ports.lean ====
section
/-! DEFINITION. The output ports as functions of the state (spec/44_interfaces.md R199, R202 to R208). -/
namespace Sys2Proof.Machine

/-- The output ports of R204, R205 and R207. A data output whose valid or request is 0 may hold anything (log entry 23); here it
shows what its source holds. `argAddr` belongs to the read port into `ARG`, which the core never exercises (R205): any value of its
`AW` bits (log entry 27). -/
structure Outputs where
  svcBusy : Bool
  svcDone : Bool
  svcOutcome : OutcomeCode
  phase : Phase
  crit : Bool
  atnReq : Bool
  argAddr : Nat
  txValid : Bool
  txData : Option Byte
  txLast : Bool
  rxReq : Bool
  prReq : Bool
  prWidth : Nat
  prRows : Nat
  prValid : Bool
  prData : Option Byte
deriving DecidableEq, Repr

/-- The output ports in a state: a request is up from the step that makes the call to the step in which it returns. -/
def outputs (s : State) : Outputs where
  svcBusy := s.svcBusy
  svcDone := s.svcDone
  svcOutcome := s.outcome
  phase := s.phase
  crit := s.crit
  atnReq := decide (s.stage = .sw) && !s.pollR
  argAddr := Config.idleArgAddr % 2 ^ s.cfg.argWidth
  txValid := decide (s.stage = .talk)
  txData := s.cfg.idString[s.txIdx]?
  txLast := decide (s.txIdx + 1 = s.cfg.idLen)
  rxReq := decide (s.stage = .rx)
  prReq := decide (s.stage = .print)
  prWidth := Config.widthBits
  prRows := Config.bmpRows
  prValid := decide (s.stage = .print) && decide (s.prIdx < Config.bmpSize)
  prData := s.readByte .bmp s.prIdx

/-- The 3-bit code of a phase on `phase_o` (spec/10_state.md R22). -/
def Phase.code : Phase → BitVec 3
  | .idle => 0#3
  | .open => 1#3
  | .dataTalk => 2#3
  | .dataListen => 3#3
  | .close => 4#3
  | .busLevel => 5#3

/-- The 3-bit code of an outcome on `svc_outcome_o` (spec/30_encoding.md R79). -/
def OutcomeCode.code : OutcomeCode → BitVec 3
  | .idle => 0#3
  | .talk => 1#3
  | .listen => 2#3
  | .command => 3#3
  | .error => 4#3
  | .reset => 5#3

/-- The 2-bit code of a font (spec/10_state.md R28). -/
def Font.code : Font → BitVec 2
  | .c64Upper => 0#2
  | .c64Lower => 1#2
  | .pc => 2#2

/-- The 2-bit code of the open state (R27). -/
def OpenState.code : OpenState → BitVec 2
  | .nothing => 0#2

/-- The table reads of a glyph lookup, as `rom_sel_o` and `rom_addr_o` would show them on a platform that keeps the tables
outside (R206; log entry 10): 0 = `XLAT`, 1 = `LGLYPH`, 2 = `PGLYPH`. -/
def romReads (s : State) (font : Font) (rvs : Bool) (b : Byte) (row : Nat) : List (BitVec 2 × BitVec 13) :=
  match font with
  | .pc => [(2#2, (pglyphAddr b row).setWidth 13)]
  | .c64Upper => [(0#2, b.setWidth 13), (1#2, lglyphAddr (glyphIndex s.cfg .c64Upper rvs (readXlat s b)) row)]
  | .c64Lower => [(0#2, b.setWidth 13), (1#2, lglyphAddr (glyphIndex s.cfg .c64Lower rvs (readXlat s b)) row)]

/-- The transmit byte `TXB` = `(last, byte)`, 9 bits (spec/30_encoding.md R75, R89). -/
def txWord (last : Bool) (b : Byte) : Nat := last.toNat * 256 + b.toNat

/-- The raster header `PRH` = `(widthBits, rowCount)`, 14 bits (R75, R92). -/
def rasterHeader (widthBits rowCount : Nat) : Nat := widthBits * 16 + rowCount

end Sys2Proof.Machine
end

