-- ==== Sys2Proof/Safety.lean ====
section
/-! DEFINITION. What a safe state and a safe run are, in the terms the statements use: the invariants of the spec's rules, and the
closed form of a rendered line (spec/43_render.md R176, R184), written without the machine's scan. -/
namespace Sys2Proof.Machine

/-! ### Reading a line from its front -/

/-- How many of the entries below `i` are not printable (R163); an entry that holds no byte counts. -/
def skipBefore (c : Config) (m : Memory) : Nat → Nat
  | 0 => 0
  | i + 1 => skipBefore c m i + (match m.read i with
    | some b => if c.printable b then 0 else 1
    | none => 1)

/-- `rv(i)`: whether the last reverse code below `i` is `CODE_RVS_ON` (R184). -/
def rvsBefore (c : Config) (m : Memory) : Nat → Bool
  | 0 => false
  | i + 1 =>
    if m.read i = some c.codeRvsOn then true
    else if m.read i = some c.codeRvsOff then false
    else rvsBefore c m i

/-- `fn(f, i)`: the font in force at `i` for start font `f`: the variant of the last effective case code below `i`, else `f`
(R176, R184). -/
def fontBefore (c : Config) (m : Memory) (f : Font) : Nat → Font
  | 0 => f
  | i + 1 =>
    if f.legacy && decide (m.read i = some c.codeCaseLower) then .c64Lower
    else if f.legacy && decide (m.read i = some c.codeCaseUpper) then .c64Upper
    else fontBefore c m f i

/-- `p(j)`, if there is one: the index of the `j`-th printable entry below `n` (R184), counted from 0. -/
def printIndex (c : Config) (m : Memory) (n j : Nat) : Option Nat :=
  (List.range n).find? fun i =>
    (match m.read i with
      | some b => c.printable b
      | none => false) && decide (i - skipBefore c m i = j)

/-- The start font of a row: `f0` in row 0, `f1 = fn(f0, n)` in rows 1 to 7 (R176, R184). -/
def rowFont (c : Config) (m : Memory) (n : Nat) (f0 : Font) (row : Nat) : Font :=
  if row = 0 then f0 else fontBefore c m f0 n

/-- The byte at row `row` and column `col` of the finished bitmap of `LINE[0..n]` with start font `f0` (R174, R184). -/
def closedForm (s : State) (n : Nat) (f0 : Font) (row col : Nat) : Byte :=
  if row < Config.rows then
    match printIndex s.cfg s.line n col with
    | none => s.cfg.blank
    | some p =>
      match s.line.read p with
      | none => s.cfg.blank
      | some b =>
        glyphRow s (fontBefore s.cfg s.line (rowFont s.cfg s.line n f0 row) p) (rvsBefore s.cfg s.line p) b row
  else s.cfg.blank

/-! ### Invariants -/

/-- Whether a render or its print is in progress. -/
def Stage.rendering : Stage → Bool
  | .scan | .pad | .print => true
  | .host | .sw | .talk | .fontSelect | .openSession | .rx | .ingest | .complete => false

/-- The phase a stage lies in (spec/10_state.md R22, R23). -/
def phaseOk : Stage → Phase → Bool
  | .host, p | .sw, p => decide (p = .idle)
  | .talk, p => decide (p = .dataTalk)
  | .fontSelect, p | .openSession, p | .rx, p | .ingest, p | .scan, p | .pad, p | .print, p => decide (p = .dataListen)
  | .complete, p => decide (p ≠ .idle)

/-- The attention results with which a stage can be reached (spec/40_dispatch.md R104). -/
def resultOk : Stage → BitVec 3 → Bool
  | .host, _ | .sw, _ => true
  | .talk, r => decide (r = Dir.talk.res)
  | .fontSelect, r | .openSession, r | .rx, r | .ingest, r | .scan, r | .pad, r | .print, r => decide (r = Dir.listen.res)
  | .complete, r => decide (r = Dir.talk.res ∨ r = Dir.listen.res ∨ r = Dir.command.res)

/-- Every memory has its canonical form and lies in its space (spec/10_state.md R33). -/
structure MemoryInv (s : State) : Prop where
  line : s.line.wf Config.lineSize = true
  bmp : s.bmp.wf Config.bmpSize = true
  arg : s.arg.wf s.cfg.argMax = true
  xlat : s.xlat.wf 256 = true
  lglyph : s.lglyph.wf 8192 = true
  pglyph : s.pglyph.wf 2048 = true

/-- The parameters, the channel state and the control registers. -/
structure ControlInv (s : State) : Prop where
  /-- the hypotheses on the parameters (spec/00_scope.md R9) -/
  params : s.cfg.wf = true
  /-- `pending_err` holds `ERR_DEFAULT` and nothing else (spec/10_state.md R29) -/
  pending : s.pendingErr = s.cfg.errDefault
  /-- `phase` is the phase of the stage (R22, R23) -/
  phase : phaseOk s.stage s.phase = true
  /-- `cmd_res` is a result that leads to the stage (spec/40_dispatch.md R104) -/
  result : resultOk s.stage s.cmdRes = true
  /-- the core is busy exactly inside a service cycle (spec/44_interfaces.md R204) -/
  busy : s.svcBusy = decide (s.stage ≠ .host)
  /-- `crit` is 1 exactly during `decode_attention()` and `receive()` (R199) -/
  crit : s.crit = (decide (s.stage = .rx) || (decide (s.stage = .sw) && !s.pollR))
  /-- the talk handler stands at a byte of the string (spec/41_sessions.md R134) -/
  talk : s.stage = .talk → s.txIdx < s.cfg.idLen

/-- The line buffer (spec/42_ingest.md R155, spec/10_state.md R30). -/
structure LineInv (s : State) : Prop where
  /-- outside a render at most 47 entries (R155 (a)) -/
  open_len : s.stage.rendering = false → s.lineLen ≤ 47
  /-- in a render at most 48 (R160) -/
  len : s.lineLen ≤ 48
  /-- every entry of the line holds a byte, and none is `CODE_CR` (R155 (b)) -/
  entries : ∀ a, a < s.lineLen → ∃ b, s.line.read a = some b ∧ b ≠ s.cfg.codeCr
  /-- in a render the terminator stands at `line_len` (R160) -/
  terminator : s.stage.rendering = true → s.line.read s.lineLen = some s.cfg.codeCr

/-- The render (spec/43_render.md R160 to R177). -/
structure RenderInv (s : State) : Prop where
  /-- every bitmap byte has been written (R161) -/
  full : s.stage.rendering = true → ∀ a, a < Config.bmpSize → (s.bmp.read a).isSome = true
  /-- a scan is in one of the eight glyph rows -/
  row : s.stage = .scan → s.row < Config.rows
  /-- a scan stays in the line (R162) -/
  idx : s.stage = .scan → s.idx ≤ s.lineLen
  /-- the end-of-line latch is not set when an entry is scanned (R164) -/
  eol : s.stage = .scan → s.eol = false
  /-- `skip` is a function of the line and of `idx` alone, the same in all eight rows (R163, R177) -/
  skip : s.stage = .scan → s.skip = skipBefore s.cfg s.line s.idx
  /-- `rvs` is a function of the line and of `idx` alone, the same in all eight rows (R167, R170, R177) -/
  rvs : s.stage = .scan → s.rvs = rvsBefore s.cfg s.line s.idx

/-- The invariant of the machine. -/
structure Inv (s : State) : Prop where
  memory : MemoryInv s
  control : ControlInv s
  line : LineInv s
  render : RenderInv s

/-! ### Environment assumptions (spec/44_interfaces.md R197): premises a statement may take, used by no rule of the machine -/

/-- `ENV_RESET_UNBLOCKS` of one `receive()`, which does not return in the samples `waiting` and returns in the sample `answer`: if
the bus reset signal is asserted in any of them, the call ends with `err = 1`. R197 does not say how soon the driver ends the
call; that any finite number of edges may pass, none included, is the model's choice (DESIGN CHOICE, log entry 26). -/
def ResetUnblocks (waiting : List Pins) (answer : Pins) : Prop :=
  (∃ p ∈ waiting ++ [answer], p.drvReset = true) → answer.rxAck = true ∧ answer.rxErr = true

/-- `ENV_RESET_HELD`: after a sample with the bus reset signal asserted the next poll answers true, however late that poll is. -/
def ResetHeld (asserted nextPoll : Pins) : Prop := asserted.drvReset = true → nextPoll.drvReset = true

/-! ### Causes of a reset, table reads -/

/-- The four causes of a reset (spec/10_state.md R45, spec/70_reset_and_hazards.md R250), in a state with the inputs sampled: `rst`;
`initialize()` between cycles; at the dispatch, a reset poll that answered true, or an attention answer that is `ERROR` or one of
the reserved results handled as it (spec/40_dispatch.md R105, R117). -/
def ResetCause (s : State) : Prop :=
  s.pins.rst = true
  ∨ (s.stage = .host ∧ s.pins.init = true)
  ∨ (s.stage = .sw ∧ (s.pollR = true ∨ (s.pins.atnAck = true ∧ 4 ≤ s.pins.atnRes.toNat)))

/-- What a font table reads as at an index (spec/20_memory.md R56 to R58): the byte listed there, and at an index that no cell lists
a free value, the same for the same index (log entry 10). -/
def tableByte (s : State) (sp : Space) (a : Nat) : Byte :=
  match s.readByte sp a with
  | some b => b
  | none => Config.unpopulated sp a

/-! ### Safe stops, runs, frames -/

/-- The only ways a run from reset stops: the environment gives no more samples to a call that has not returned, or the driver
breaks its contract. -/
def SafeStop (o : Host.Outcome State Fault Refusal) : Prop :=
  (∃ call, o = .fault (.stuck call)) ∨ ∃ len, o = .refused (.argumentTooLong len)

/-- `k` steps. -/
def steps : Nat → State → Host.Outcome State Fault Refusal
  | 0, s => .next s
  | k + 1, s =>
    match step s with
    | .next t => steps k t
    | .fault f => .fault f
    | .refused r => .refused r

/-- Every byte of every space reads as before. -/
def SameBytes (s t : State) : Prop := ∀ sp a, t.readByte sp a = s.readByte sp a

/-- Every byte outside index `a0` of space `sp0` reads as before. -/
def SameBytesBut (sp0 : Space) (a0 : Nat) (s t : State) : Prop :=
  ∀ sp a, (sp ≠ sp0 ∨ a ≠ a0) → t.readByte sp a = s.readByte sp a

/-- Every byte outside space `sp0` reads as before. -/
def SameBytesOutside (sp0 : Space) (s t : State) : Prop := ∀ sp a, sp ≠ sp0 → t.readByte sp a = s.readByte sp a

/-- What a decoded command leaves when it is dispatched (spec/40_dispatch.md R102, R104): the answer of the attention decode is
latched, `ARG` holds the driver's argument bytes, `phase` and the position are written, and nothing else changes. That the length is
taken modulo `2^AW`, and that `ARG` holds no value past the argument, is the model's choice (log entry 13). -/
structure Dispatched (d : Dir) (code : Byte) (p : Phase) (st : Stage) (s t : State) : Prop where
  phase : t.phase = p
  stage : t.stage = st
  res : t.cmdRes = d.res
  code : t.cmdCode = code
  argLen : t.cmdArgLen = s.pins.atnArgLen % 2 ^ s.cfg.argWidth
  crit : t.crit = false
  arg : ∀ a, t.readByte .arg a = if a < s.cfg.argMax then s.pins.atnArgs[a]? else none
  bytes : SameBytesOutside .arg s t
  rest : { t with
    phase := s.phase, stage := s.stage, cmdRes := s.cmdRes, cmdCode := s.cmdCode, cmdArgLen := s.cmdArgLen,
    crit := s.crit, arg := s.arg } = s

/-- The registers as `do_reset` leaves them (spec/10_state.md R45). -/
structure ResetRegisters (s t : State) : Prop where
  phase : t.phase = .idle
  openState : t.openState = .nothing
  pendingErr : t.pendingErr = s.cfg.errDefault
  font : t.font = .c64Upper
  lineLen : t.lineLen = 0
  crit : t.crit = false

/-- The events of a whole talk session: every byte but the last with `send`, the last with `send_final` (spec/41_sessions.md R134,
spec/30_encoding.md R89). -/
def replyEvents (c : Config) : List Event :=
  c.idString.dropLast.map Event.send ++ (c.idString.getLast?.map Event.sendFinal).toList

/-- The state with the registers a scan operation may write taken from `s`: what must be left is `s` itself. -/
def scanRegistersOf (s t : State) : State :=
  { t with
    row := s.row, idx := s.idx, eol := s.eol, rvs := s.rvs, skip := s.skip, stage := s.stage, font := s.font, bmp := s.bmp }

end Sys2Proof.Machine
end

