-- ==== Sys2Proof/Certificates/Slice0/Obligations.lean ====
section
/-! DEFINITION. The statements for the provers. Each docstring names the rules of spec/ it is about and, where a clause is the
model's own choice, the log entry (notes/assumptions/). -/

open Sys2Proof Sys2Proof.Machine

/-! ### Encoding -/

/-- Decoding an encoded well-formed instruction gives it back, for every parameter set that meets R9 (spec/30_encoding.md R75 to
R88). For parameters other than the defaults the rows are the model's assignment (log entry 6). -/
def Obligations.DecodeGivesBackEncodedInstruction : Prop :=
  ∀ (c : Config) (i : Instr), c.wf = true → i.wf c = true → decode c i.format (encode c i) = .ok i

/-- Every decoded word has one meaning: the instruction is well formed, of that format, and encodes to that word (spec/30_encoding.md
R88). -/
def Obligations.EncodeGivesBackDecodedWord : Prop :=
  ∀ (c : Config) (f : Format) (w : Nat) (i : Instr), c.wf = true → decode c f w = .ok i →
    i.format = f ∧ encode c i = w ∧ i.wf c = true

/-- No encoding traps (spec/30_encoding.md R87): every word of a format decodes, for every parameter set; a number too wide for the
format is rejected by name. -/
def Obligations.EveryWordOfAFormatDecodes : Prop :=
  ∀ (c : Config) (f : Format) (w : Nat),
    (w < 2 ^ f.width → ∃ i, decode c f w = .ok i) ∧ (2 ^ f.width ≤ w → decode c f w = .error (.wordTooWide f w))

/-- Words written out in spec/95_test_vectors.md and spec/opcode_table.json decode to their rows with the default parameters. -/
def Obligations.WordsOfTheSpecDecodeToTheirRows : Prop :=
  ∀ x ∈ [(Format.sw, 0x3F7, Instr.openC 7#4), (.sw, 0x260, .dataL 0#4), (.sw, 0x16F, .dataT 15#4), (.sw, 0x33F, .unlistenC),
    (.sw, 0x15E, .talkTHi 14#4), (.sw, 0x2DF, .rsvdDL 15#4), (.sw, 0xABC, .reset 0x2BC#11), (.rxa, 0x30D, .rxErr true 0x0D#8),
    (.dbIng, 0x0D, .ingCr), (.dbScan, 0x9F, .scanCtrl80 0x9F#8), (.fs, 0x7, .fsLower), (.host, 0x3, .hostInit true)],
    decode Config.platform x.1 x.2.1 = .ok x.2.2

/-! ### The step -/

/-- A step at whose stage a word is found runs the decoded instruction, on the state with the inputs sampled. -/
def Obligations.StepRunsTheDecodedInstruction : Prop :=
  ∀ (s : State) (f : Format) (w : Nat) (i : Instr), (sample s).pins.rst = false →
    fetch (sample s) = .word f w → decode s.cfg f w = .ok i → step s = exec i (sample s)

/-- Which word is taken at each stage (spec/00_scope.md R4, spec/40_dispatch.md R100, spec/41_sessions.md R136, spec/42_ingest.md R150,
spec/43_render.md R162): the host request between cycles, the service word at the dispatch, the channel at the font selection, the
receive answer, the received byte, the scanned byte of the line. The argument length is looked at for a decoded command only: with
any other answer it is any value and not read (spec/93_implementation_defined.md U11; log entry 13). -/
def Obligations.WordTakenAtEachStage : Prop :=
  ∀ s : State,
    (s.stage = .host → fetch s = .word .host (s.pins.init.toNat * 2 + s.pins.svcStart.toNat))
    ∧ (s.stage = .sw → s.pollR = true → ∃ low, low < 2048 ∧ fetch s = .word .sw (2048 + low))
    ∧ (s.stage = .sw → s.pollR = false → s.pins.atnAck = true →
        (s.pins.atnArgLen % 2 ^ s.cfg.argWidth ≤ s.cfg.argMax ∨ ∀ d : Dir, s.pins.atnRes ≠ d.res) →
        fetch s = .word .sw (s.pins.atnRes.toNat * 256 + s.pins.atnCode.toNat))
    ∧ (s.stage = .fontSelect → fetch s = .word .fs (s.cmdCode.toNat % 16))
    ∧ (s.stage = .rx → s.pins.rxAck = true →
        fetch s = .word .rxa (s.pins.rxErr.toNat * 512 + s.pins.rxEod.toNat * 256 + s.pins.rxData.toNat))
    ∧ (s.stage = .ingest → fetch s = .word .dbIng s.rxByte.toNat)
    ∧ (s.stage = .scan → ∀ b, s.idx < 49 → s.readByte .line s.idx = some b → fetch s = .word .dbScan b.toNat)

/-- `rst` acts whatever the core is doing (spec/70_reset_and_hazards.md R252, spec/44_interfaces.md R202): the registers of `do_reset`
are written, the cycle is abandoned, no event is made. That everything else keeps its value, and that `svc_busy_o` and `svc_done_o`
become 0, is the model's choice (log entry 16): spec/10_state.md R46 calls most of it unspecified after `rst`. -/
def Obligations.HardwareResetActsAtAnyStage : Prop :=
  ∀ s : State, (sample s).pins.rst = true → ∃ t, step s = .next t ∧ ResetRegisters s t ∧
    t.stage = .host ∧ t.svcBusy = false ∧ t.svcDone = false ∧ SameBytes s t ∧
    { t with
      phase := s.phase, openState := s.openState, pendingErr := s.pendingErr, font := s.font, lineLen := s.lineLen,
      crit := s.crit, stage := s.stage, svcBusy := s.svcBusy, svcDone := s.svcDone, pins := s.pins, tape := s.tape } = s

/-- A call that has not returned and gets no further sample is stuck (spec/60_exceptions.md R241; that the stuck state is a fault of
this name is log entry 3). -/
def Obligations.CallWithoutAnswerIsStuck : Prop :=
  ∀ s : State, s.tape = [] →
    (s.stage = .sw → s.pollR = false → step s = .fault (.stuck .decodeAttention))
    ∧ (s.stage = .rx → step s = .fault (.stuck .receive))
    ∧ (s.stage = .print → step s = .fault (.stuck .printRaster))
    ∧ (s.stage = .talk → s.txIdx + 1 < s.cfg.idLen → step s = .fault (.stuck .send))
    ∧ (s.stage = .talk → s.txIdx + 1 = s.cfg.idLen → step s = .fault (.stuck .sendFinal))

/-- While a call waits, nothing changes but the sampled inputs, and the outputs are held (spec/44_interfaces.md R203; `svc_done_o` is
already 0 inside a cycle). R203 holds the outputs of the pending call; that the idle data outputs are held too is the model's choice
(log entries 23 and 27). -/
def Obligations.WaitingCallHoldsStateAndOutputs : Prop :=
  ∀ (s : State) (p : Pins) (rest : List Pins) (call : CallName), s.tape = p :: rest → p.rst = false → s.svcDone = false →
    fetch (sample s) = .waiting call →
    step s = .next { s with pins := p, tape := rest } ∧ outputs { s with pins := p, tape := rest } = outputs s

/-- A decoded command whose argument is longer than `ARG_MAX` breaks the driver's contract and is refused (spec/44_interfaces.md R193,
spec/93_implementation_defined.md U10; log entry 13). -/
def Obligations.TooLongArgumentIsRefused : Prop :=
  ∀ (s : State) (p : Pins) (rest : List Pins) (d : Dir), s.tape = p :: rest → p.rst = false → s.stage = .sw → s.pollR = false →
    p.atnAck = true → p.atnRes = d.res → s.cfg.argMax < p.atnArgLen % 2 ^ s.cfg.argWidth →
    step s = .refused (.argumentTooLong (p.atnArgLen % 2 ^ s.cfg.argWidth))

/-! ### Host requests -/

/-- The four causes of a reset run the one routine `do_reset` (spec/10_state.md R45): `initialize()`, `rst`, BusResetSignaled,
BusDecodeError (`ERROR`, and the reserved results handled as it). -/
def Obligations.FourCausesRunTheResetRoutine : Prop :=
  ∀ s : State,
    (∀ start, ∃ t, exec (.hostInit start) s = .next t ∧ ResetRegisters s t)
    ∧ (∀ u, ∃ t, exec (.reset u) s = .next t ∧ ResetRegisters s t)
    ∧ (∀ u, ∀ i ∈ [Instr.atnError u, .atnRsvd5 u, .atnRsvd6 u, .atnRsvd7 u], ∃ t, exec i s = .next t ∧ ResetRegisters s t)
    ∧ ((sample s).pins.rst = true → ∃ t, step s = .next t ∧ ResetRegisters s t)

/-- INITIALIZE (spec/44_interfaces.md R200): the registers of `do_reset`, no call; a simultaneous `svc_start_i` is ignored (R204).
That what spec/10_state.md R46 calls unspecified keeps its value is the model's choice (log entry 16). -/
def Obligations.InitializeWritesTheResetRegistersOnly : Prop :=
  ∀ (start : Bool) (s : State), ∃ t, exec (.hostInit start) s = .next t ∧ ResetRegisters s t ∧ SameBytes s t ∧
    { t with
      phase := s.phase, openState := s.openState, pendingErr := s.pendingErr, font := s.font, lineLen := s.lineLen,
      crit := s.crit } = s

/-- SERVICE_CYCLE (spec/44_interfaces.md R191, R192, R204, spec/40_dispatch.md R100): the reset line is polled if the platform has it;
if it answers false, `decode_attention()` is called with `crit = 1`. That both calls are made in the step that accepts the request is
the model's choice (log entry 21). -/
def Obligations.ServiceCyclePollsThenDecodes : Prop :=
  ∀ s : State, ∃ t, exec .hostServiceCycle s = .next t ∧ t.svcBusy = true ∧ t.stage = .sw ∧
    t.pollR = (s.cfg.hasResetLine && s.pins.drvReset) ∧
    t.crit = (if s.cfg.hasResetLine && s.pins.drvReset then s.crit else true) ∧
    t.trace = s.trace ++ (if s.cfg.hasResetLine then [.detectReset] else [])
      ++ (if s.cfg.hasResetLine && s.pins.drvReset then [] else [.decodeAttention]) ∧
    SameBytes s t ∧
    { t with
      svcBusy := s.svcBusy, stage := s.stage, pollR := s.pollR, crit := s.crit, trace := s.trace } = s

/-- HOST.NONE (spec/44_interfaces.md R204): the core does nothing at that edge. -/
def Obligations.NoHostRequestChangesNothing : Prop :=
  ∀ s : State, exec .hostNone s = .next s ∧ SameBytes s s

/-! ### Service words that decode no command -/

/-- RESET (spec/40_dispatch.md R101, spec/60_exceptions.md R221, R230): the registers of `do_reset`, outcome `RESET`, the cycle is
over; nothing is decoded, sent, printed or flushed. That what spec/10_state.md R46 calls unspecified keeps its value is the model's
choice (log entry 16). -/
def Obligations.BusResetAbortsToIdle : Prop :=
  ∀ (u : BitVec 11) (s : State), ∃ t, exec (.reset u) s = .next t ∧ ResetRegisters s t ∧
    t.outcome = .reset ∧ t.stage = .host ∧ t.svcBusy = false ∧ t.svcDone = true ∧ t.trace = s.trace ++ [.returned .reset] ∧
    SameBytes s t ∧
    { t with
      phase := s.phase, openState := s.openState, pendingErr := s.pendingErr, font := s.font, lineLen := s.lineLen,
      crit := s.crit, outcome := s.outcome, stage := s.stage, svcBusy := s.svcBusy, svcDone := s.svcDone,
      trace := s.trace } = s

/-- ATN.IDLE (spec/40_dispatch.md R103): `cmd_res` and the outcome are `IDLE`, the cycle is over; `phase`, the channel state, the
line and its length keep their values. That the code and the argument length are not latched is log entry 12. -/
def Obligations.IdleCycleChangesNothingElse : Prop :=
  ∀ (u : Byte) (s : State), ∃ t, exec (.atnIdle u) s = .next t ∧
    t.cmdRes = 0#3 ∧ t.crit = false ∧ t.outcome = .idle ∧ t.stage = .host ∧ t.svcBusy = false ∧ t.svcDone = true ∧
    t.trace = s.trace ++ [.returned .idle] ∧ SameBytes s t ∧
    { t with
      cmdRes := s.cmdRes, crit := s.crit, outcome := s.outcome, stage := s.stage, svcBusy := s.svcBusy,
      svcDone := s.svcDone, trace := s.trace } = s

/-- ATN.ERROR and the reserved results ATN.RSVD5, ATN.RSVD6, ATN.RSVD7 (spec/40_dispatch.md R105, R117, spec/60_exceptions.md R223,
R230): the registers of `do_reset`, outcome `ERROR`; the answer is latched and not read; nothing is flushed. That what spec/10_state.md R46 calls
unspecified keeps its value or the latched answer is the model's choice (log entry 16), and the length modulo `2^AW` too (log entry
13). -/
def Obligations.DecodeErrorAbortsToIdle : Prop :=
  ∀ (u : Byte) (s : State), ∀ x ∈ [(Instr.atnError u, 4#3), (.atnRsvd5 u, 5#3), (.atnRsvd6 u, 6#3), (.atnRsvd7 u, 7#3)],
    ∃ t, exec x.1 s = .next t ∧ ResetRegisters s t ∧
      t.cmdRes = x.2 ∧ t.cmdCode = u ∧ t.cmdArgLen = s.pins.atnArgLen % 2 ^ s.cfg.argWidth ∧
      t.outcome = .error ∧ t.stage = .host ∧ t.svcBusy = false ∧ t.svcDone = true ∧ t.trace = s.trace ++ [.returned .error] ∧
      SameBytes s t ∧
      { t with
        phase := s.phase, openState := s.openState, pendingErr := s.pendingErr, font := s.font, lineLen := s.lineLen,
        crit := s.crit, cmdRes := s.cmdRes, cmdCode := s.cmdCode, cmdArgLen := s.cmdArgLen, outcome := s.outcome,
        stage := s.stage, svcBusy := s.svcBusy, svcDone := s.svcDone, trace := s.trace } = s

/-! ### Commands -/

/-- OPEN.T, OPEN.L, OPEN.C and DATA.C (spec/40_dispatch.md R107, R110, spec/41_sessions.md R130): `phase <- OPEN`; the open handler has
no effect, whatever the channel, the direction and the argument. What `ARG` holds past the argument is the model's choice (log entry
13). -/
def Obligations.OpenHandlerCommandsOnlyDispatch : Prop :=
  ∀ (ch : Nibble) (s : State),
    (∀ x ∈ [(Instr.openT ch, Dir.talk), (.openL ch, .listen), (.openC ch, .command)],
      ∃ t, exec x.1 s = .next t ∧ Dispatched x.2 (commandCode s.cfg.verbOpen ch) .open .complete s t)
    ∧ ∃ t, exec (.dataC ch) s = .next t ∧ Dispatched .command (commandCode s.cfg.verbData ch) .open .complete s t

/-- CLOSE.T, CLOSE.L, CLOSE.C (spec/40_dispatch.md R111, spec/41_sessions.md R141): `phase <- CLOSE`; the line buffer and the font stay.
What `ARG` holds past the argument is the model's choice (log entry 13). -/
def Obligations.CloseCommandsOnlyDispatch : Prop :=
  ∀ (ch : Nibble) (s : State), ∀ x ∈ [(Instr.closeT ch, Dir.talk), (.closeL ch, .listen), (.closeC ch, .command)],
    ∃ t, exec x.1 s = .next t ∧ Dispatched x.2 (commandCode s.cfg.verbClose ch) .close .complete s t

/-- LISTEN.d, LISTEN.d.hi, UNLISTEN.d, TALK.d, TALK.d.hi, UNTALK.d for the three directions (spec/40_dispatch.md R112 to R115):
`phase <- BUS_LEVEL`, no action, whichever device was addressed. What `ARG` holds past the argument is the model's choice (log entry
13). -/
def Obligations.BusLevelVerbsTakeNoAction : Prop :=
  ∀ (dev : Nibble) (s : State),
    (∀ x ∈ [(Instr.listenT dev, Dir.talk), (.listenL dev, .listen), (.listenC dev, .command)],
      ∃ t, exec x.1 s = .next t ∧ Dispatched x.2 (commandCode s.cfg.verbListenLo dev) .busLevel .complete s t)
    ∧ (∀ x ∈ [(Instr.listenTHi dev, Dir.talk), (.listenLHi dev, .listen), (.listenCHi dev, .command)],
      ∃ t, exec x.1 s = .next t ∧ Dispatched x.2 (commandCode s.cfg.verbListenHi dev) .busLevel .complete s t)
    ∧ (∀ x ∈ [(Instr.unlistenT, Dir.talk), (.unlistenL, .listen), (.unlistenC, .command)],
      ∃ t, exec x.1 s = .next t ∧ Dispatched x.2 (commandCode s.cfg.verbListenHi 0xF#4) .busLevel .complete s t)
    ∧ (∀ x ∈ [(Instr.talkT dev, Dir.talk), (.talkL dev, .listen), (.talkC dev, .command)],
      ∃ t, exec x.1 s = .next t ∧ Dispatched x.2 (commandCode s.cfg.verbTalkLo dev) .busLevel .complete s t)
    ∧ (∀ x ∈ [(Instr.talkTHi dev, Dir.talk), (.talkLHi dev, .listen), (.talkCHi dev, .command)],
      ∃ t, exec x.1 s = .next t ∧ Dispatched x.2 (commandCode s.cfg.verbTalkHi dev) .busLevel .complete s t)
    ∧ (∀ x ∈ [(Instr.untalkT, Dir.talk), (.untalkL, .listen), (.untalkC, .command)],
      ∃ t, exec x.1 s = .next t ∧ Dispatched x.2 (commandCode s.cfg.verbTalkHi 0xF#4) .busLevel .complete s t)

/-- RSVD0, RSVD1, RSVD7 to RSVDD in the three directions (spec/40_dispatch.md R116): `phase <- BUS_LEVEL`, no action. The verb of the
`k`-th row is the `k`-th unassigned verb (log entry 6), which with the default parameters is the row's own digit, as
`UnassignedVerbsOfTheDefaults` states. What `ARG` holds past the argument is the model's choice (log entry 13). -/
def Obligations.UnassignedVerbsTakeNoAction : Prop :=
  ∀ (low : Nibble) (s : State),
    (∀ x ∈ [(Instr.rsvd0T low, 0), (.rsvd1T low, 1), (.rsvd7T low, 2), (.rsvd8T low, 3), (.rsvd9T low, 4), (.rsvdAT low, 5),
        (.rsvdBT low, 6), (.rsvdCT low, 7), (.rsvdDT low, 8)],
      ∃ t, exec x.1 s = .next t ∧ Dispatched .talk (commandCode (s.cfg.unassignedVerb x.2) low) .busLevel .complete s t)
    ∧ (∀ x ∈ [(Instr.rsvd0L low, 0), (.rsvd1L low, 1), (.rsvd7L low, 2), (.rsvd8L low, 3), (.rsvd9L low, 4), (.rsvdAL low, 5),
        (.rsvdBL low, 6), (.rsvdCL low, 7), (.rsvdDL low, 8)],
      ∃ t, exec x.1 s = .next t ∧ Dispatched .listen (commandCode (s.cfg.unassignedVerb x.2) low) .busLevel .complete s t)
    ∧ (∀ x ∈ [(Instr.rsvd0C low, 0), (.rsvd1C low, 1), (.rsvd7C low, 2), (.rsvd8C low, 3), (.rsvd9C low, 4), (.rsvdAC low, 5),
        (.rsvdBC low, 6), (.rsvdCC low, 7), (.rsvdDC low, 8)],
      ∃ t, exec x.1 s = .next t ∧ Dispatched .command (commandCode (s.cfg.unassignedVerb x.2) low) .busLevel .complete s t)

/-- The `RSVDn` rows stand for the verbs of their names when the parameters have their defaults (spec/30_encoding.md R80): these are
the unassigned verbs, and in each direction a word with the verb `n` decodes to the row of that digit. -/
def Obligations.UnassignedVerbsOfTheDefaults : Prop :=
  Config.platform.unassignedVerbs = [0x0#4, 0x1#4, 0x7#4, 0x8#4, 0x9#4, 0xA#4, 0xB#4, 0xC#4, 0xD#4]
  ∧ ∀ low : Nibble,
    ∀ x ∈ [(0x0, Instr.rsvd0T low, Instr.rsvd0L low, Instr.rsvd0C low), (0x1, .rsvd1T low, .rsvd1L low, .rsvd1C low),
      (0x7, .rsvd7T low, .rsvd7L low, .rsvd7C low), (0x8, .rsvd8T low, .rsvd8L low, .rsvd8C low),
      (0x9, .rsvd9T low, .rsvd9L low, .rsvd9C low), (0xA, .rsvdAT low, .rsvdAL low, .rsvdAC low),
      (0xB, .rsvdBT low, .rsvdBL low, .rsvdBC low), (0xC, .rsvdCT low, .rsvdCL low, .rsvdCC low),
      (0xD, .rsvdDT low, .rsvdDL low, .rsvdDC low)],
      decode Config.platform .sw (0x100 + x.1 * 16 + low.toNat) = .ok x.2.1
      ∧ decode Config.platform .sw (0x200 + x.1 * 16 + low.toNat) = .ok x.2.2.1
      ∧ decode Config.platform .sw (0x300 + x.1 * 16 + low.toNat) = .ok x.2.2.2

/-- DATA.T (spec/40_dispatch.md R108, spec/41_sessions.md R134): `phase <- DATA_TALK`, on every channel; the first byte of the string
is sent, with `send_final` if it is the only one. What `ARG` holds past the argument is the model's choice (log entry 13). -/
def Obligations.TalkCommandSendsTheFirstByte : Prop :=
  ∀ (ch : Nibble) (s : State), ∃ t, exec (.dataT ch) s = .next t ∧
    t.txIdx = 0 ∧
    t.trace = s.trace ++ [if s.cfg.idTail = [] then .sendFinal s.cfg.idHead else .send s.cfg.idHead] ∧
    Dispatched .talk (commandCode s.cfg.verbData ch) .dataTalk .talk s { t with txIdx := s.txIdx, trace := s.trace }

/-- DATA.L (spec/40_dispatch.md R109): `phase <- DATA_LISTEN`, and the font selection comes next. What `ARG` holds past the
argument is the model's choice (log entry 13). -/
def Obligations.ListenCommandStartsASession : Prop :=
  ∀ (ch : Nibble) (s : State), ∃ t, exec (.dataL ch) s = .next t ∧
    Dispatched .listen (commandCode s.cfg.verbData ch) .dataListen .fontSelect s t

/-- Normal completion (spec/40_dispatch.md R106): `phase <- IDLE`, the outcome is the direction, the cycle returns. -/
def Obligations.CompletionReturnsTheDirection : Prop :=
  ∀ s : State, s.stage = .complete → (sample s).pins.rst = false → ∃ t, step s = .next t ∧
    t.phase = .idle ∧ t.stage = .host ∧ t.svcBusy = false ∧ t.svcDone = true ∧
    (s.cmdRes = 1#3 → t.outcome = .talk) ∧ (s.cmdRes = 2#3 → t.outcome = .listen) ∧ (s.cmdRes = 3#3 → t.outcome = .command) ∧
    t.trace = s.trace ++ [.returned t.outcome] ∧ SameBytes s t ∧
    { t with
      phase := s.phase, stage := s.stage, svcBusy := s.svcBusy, svcDone := s.svcDone, outcome := s.outcome, trace := s.trace,
      pins := s.pins, tape := s.tape } = s

/-! ### Sessions -/

/-- FS.UPPER, FS.PC, FS.LOWER, FS.DEFAULT (spec/41_sessions.md R137): `font` is written and nothing else but the position. -/
def Obligations.FontSelectionWritesTheFontOnly : Prop :=
  ∀ (ch : Nibble) (s : State),
    ∀ x ∈ [(Instr.fsUpper, Font.c64Upper), (.fsPc, .pc), (.fsLower, .c64Lower), (.fsDefault ch, .c64Upper)],
      ∃ t, exec x.1 s = .next t ∧ t.font = x.2 ∧ t.stage = .openSession ∧ SameBytes s t ∧
        { t with font := s.font, stage := s.stage } = s

/-- The font of a listen session is chosen by the channel of its own command (spec/30_encoding.md R85), whatever the font was.
That channel 15 is not special is the spec's own inference (R85: "derived: from the source's 'any other channel'"). -/
def Obligations.ChannelDecidesTheFontOfASession : Prop :=
  ∀ s : State, s.stage = .fontSelect → (sample s).pins.rst = false → ∃ t, step s = .next t ∧ t.stage = .openSession ∧
    t.font = (if s.cmdCode.toNat % 16 = 1 then .pc else if s.cmdCode.toNat % 16 = 7 then .c64Lower else .c64Upper)

/-- The line buffer is emptied at the start of every listen session, after the font selection and before the first `receive()`
(spec/41_sessions.md R138); "emptied" is `line_len <- 0`, the entries stay. -/
def Obligations.SessionStartsWithAnEmptyLine : Prop :=
  ∀ s : State, s.stage = .openSession → (sample s).pins.rst = false → ∃ t, step s = .next t ∧
    t.lineLen = 0 ∧ t.stage = .rx ∧ t.crit = true ∧ t.trace = s.trace ++ [.receive] ∧ SameBytes s t ∧
    { t with
      lineLen := s.lineLen, stage := s.stage, crit := s.crit, trace := s.trace, pins := s.pins, tape := s.tape,
      svcDone := s.svcDone } = s

/-- RX.MORE, RX.LAST, RX.ERR (spec/41_sessions.md R139 to R144, spec/60_exceptions.md R225): the answer is latched, `crit <- 0`; a byte
with no error goes to the ingest, an error leaves the loop and the byte is not ingested; the line, its length and the channel
state keep their values. -/
def Obligations.ReceiveAnswersAreLatched : Prop :=
  ∀ (b : Byte) (eod : Bool) (s : State),
    ∀ x ∈ [(Instr.rxMore b, false, false, Stage.ingest), (.rxLast b, true, false, .ingest), (.rxErr eod b, eod, true, .complete)],
      ∃ t, exec x.1 s = .next t ∧ t.rxByte = b ∧ t.rxEod = x.2.1 ∧ t.rxErr = x.2.2.1 ∧ t.stage = x.2.2.2 ∧ t.crit = false ∧
        SameBytes s t ∧
        { t with
          rxByte := s.rxByte, rxEod := s.rxEod, rxErr := s.rxErr, stage := s.stage, crit := s.crit } = s

/-- ING.CHAR short of 48 entries (spec/42_ingest.md R151): the byte is stored at `LINE[line_len]`, `line_len` grows by one, and the
turn of the loop ends: `rx_eod` leaves the loop, otherwise `receive()` is called again (spec/41_sessions.md R136). -/
def Obligations.CharacterIsAppended : Prop :=
  ∀ (b : Byte) (s : State), s.lineLen < 49 → s.lineLen ≠ 47 → ∃ t, exec (.ingChar b) s = .next t ∧
    t.readByte .line s.lineLen = some b ∧ SameBytesBut .line s.lineLen s t ∧ t.lineLen = s.lineLen + 1 ∧
    (s.rxEod = true → t.stage = .complete ∧ t.crit = s.crit ∧ t.trace = s.trace) ∧
    (s.rxEod = false → t.stage = .rx ∧ t.crit = true ∧ t.trace = s.trace ++ [.receive]) ∧
    { t with
      line := s.line, lineLen := s.lineLen, stage := s.stage, crit := s.crit, trace := s.trace } = s

/-- ING.CHAR at 47 entries (spec/42_ingest.md R152, spec/43_render.md R160, R161): the byte is the 48th entry, the synthetic carriage
return goes to `LINE[48]`, the bitmap is cleared and the scan of row 0 starts. -/
def Obligations.FortyEighthEntryForcesAFlush : Prop :=
  ∀ (b : Byte) (s : State), s.lineLen = 47 → ∃ t, exec (.ingChar b) s = .next t ∧
    t.readByte .line 47 = some b ∧ t.readByte .line 48 = some s.cfg.codeCr ∧ t.lineLen = 48 ∧
    (∀ a, t.readByte .bmp a = if a < 432 then some s.cfg.blank else none) ∧
    (∀ sp a, sp ≠ .bmp → (sp ≠ .line ∨ (a ≠ 47 ∧ a ≠ 48)) → t.readByte sp a = s.readByte sp a) ∧
    t.stage = .scan ∧ t.row = 0 ∧ t.idx = 0 ∧ t.eol = false ∧ t.rvs = false ∧ t.skip = 0 ∧
    { t with
      line := s.line, bmp := s.bmp, lineLen := s.lineLen, stage := s.stage, row := s.row, idx := s.idx, eol := s.eol,
      rvs := s.rvs, skip := s.skip } = s

/-- ING.CR (spec/42_ingest.md R153, spec/43_render.md R160, R161): the terminator is stored at `LINE[line_len]`, the bitmap is cleared
and the scan of row 0 starts, even for an empty line. -/
def Obligations.CarriageReturnStartsARender : Prop :=
  ∀ s : State, s.lineLen < 49 → ∃ t, exec .ingCr s = .next t ∧
    t.readByte .line s.lineLen = some s.cfg.codeCr ∧ t.lineLen = s.lineLen ∧
    (∀ a, t.readByte .bmp a = if a < 432 then some s.cfg.blank else none) ∧
    (∀ sp a, sp ≠ .bmp → (sp ≠ .line ∨ a ≠ s.lineLen) → t.readByte sp a = s.readByte sp a) ∧
    t.stage = .scan ∧ t.row = 0 ∧ t.idx = 0 ∧ t.eol = false ∧ t.rvs = false ∧ t.skip = 0 ∧
    { t with
      line := s.line, bmp := s.bmp, stage := s.stage, row := s.row, idx := s.idx, eol := s.eol, rvs := s.rvs,
      skip := s.skip } = s

/-- An index that does not exist in its space stops the machine by name (spec/20_memory.md R50; log entry 9); by
`InvariantStatesStopSafely` no state that meets the invariant reaches it. -/
def Obligations.IndexOutsideABufferIsAFault : Prop :=
  ∀ (b : Byte) (s : State),
    (49 ≤ s.lineLen → exec (.ingChar b) s = .fault (.indexOutOfRange .line s.lineLen)
      ∧ exec .ingCr s = .fault (.indexOutOfRange .line s.lineLen))
    ∧ (∀ i ∈ [Instr.scanPrint20 b, .scanPrint40 b, .scanPrintA0 b, .scanPrintC0 b],
      s.eol = false → s.skip ≤ s.idx → 432 ≤ s.row * 48 + (s.idx - s.skip) →
      exec i s = .fault (.indexOutOfRange .bmp (s.row * 48 + (s.idx - s.skip))))

/-! ### The render -/

/-- SCAN.PRINT.20, .40, .A0, .C0 (spec/43_render.md R164, R165, R171): with the latch clear the glyph byte of this row is stored,
unchanged, at row `row`, column `idx - skip`; no other byte changes. Then the scan goes on. -/
def Obligations.PrintableByteStoresItsGlyphByte : Prop :=
  ∀ (b : Byte) (s : State), ∀ i ∈ [Instr.scanPrint20 b, .scanPrint40 b, .scanPrintA0 b, .scanPrintC0 b],
    s.eol = false → s.skip ≤ s.idx → s.row * 48 + (s.idx - s.skip) < 432 → ∃ t, exec i s = .next t ∧
      t.readByte .bmp (s.row * 48 + (s.idx - s.skip)) = some (glyphRow s s.font s.rvs b s.row) ∧
      SameBytesBut .bmp (s.row * 48 + (s.idx - s.skip)) s t ∧
      { t with bmp := s.bmp } = advanceScan s

/-- SCAN.PRINT behind a set end-of-line latch (spec/43_render.md R164): no glyph column, no byte changes. -/
def Obligations.PrintableByteBehindTheLatchIsDropped : Prop :=
  ∀ (b : Byte) (s : State), ∀ i ∈ [Instr.scanPrint20 b, .scanPrint40 b, .scanPrintA0 b, .scanPrintC0 b],
    s.eol = true → ∃ t, exec i s = .next t ∧ SameBytes s t ∧ t = advanceScan s

/-- SCAN.CR, SCAN.RVS_ON, SCAN.RVS_OFF, SCAN.CTRL.00, SCAN.CTRL.80 (spec/43_render.md R163, R166, R167, R170, R172): `skip` grows by
one; the carriage return latches end-of-line, the reverse codes set and clear `rvs`, any other control code does nothing more;
no byte of memory changes. Then the scan goes on. -/
def Obligations.ControlCodesSkipAndSetTheirFlag : Prop :=
  ∀ (b : Byte) (s : State),
    ∀ x ∈ [(Instr.scanCr, { s with skip := s.skip + 1, eol := true }), (.scanRvsOn, { s with skip := s.skip + 1, rvs := true }),
      (.scanRvsOff, { s with skip := s.skip + 1, rvs := false }), (.scanCtrl00 b, { s with skip := s.skip + 1 }),
      (.scanCtrl80 b, { s with skip := s.skip + 1 })],
      ∃ t, exec x.1 s = .next t ∧ t = advanceScan x.2 ∧ SameBytes s t

/-- SCAN.CASE_LOWER and SCAN.CASE_UPPER (spec/43_render.md R168, R169): `skip` grows by one; a legacy font becomes the code's variant,
the non-legacy font stays; no byte of memory changes. Then the scan goes on. -/
def Obligations.CaseCodesMoveALegacyFont : Prop :=
  ∀ s : State, ∀ x ∈ [(Instr.scanCaseLower, Font.c64Lower), (.scanCaseUpper, .c64Upper)],
    (s.font = .pc → exec x.1 s = .next (advanceScan { s with skip := s.skip + 1 }))
    ∧ (s.font ≠ .pc → exec x.1 s = .next (advanceScan { s with skip := s.skip + 1, font := x.2 }))
    ∧ ∃ t, exec x.1 s = .next t ∧ SameBytes s t

/-- How a scan goes on (spec/43_render.md R160, R162): the next entry up to the terminator at `line_len`; after it the next of the
eight rows, with `eol`, `rvs` and `skip` cleared; after row 7 the padding row. Nothing else changes, `font` not either (R176). That after row
7 `idx` stays at `line_len` and the flags stay as the last scan left them is the model's choice (log entry 24): R183 lists 49 as the
loop exit value. -/
def Obligations.ScanVisitsEveryEntryOfEveryRow : Prop :=
  ∀ s : State,
    (s.idx < s.lineLen → advanceScan s = { s with idx := s.idx + 1 })
    ∧ (s.lineLen ≤ s.idx → s.row < 7 →
        advanceScan s = { s with row := s.row + 1, idx := 0, eol := false, rvs := false, skip := 0, stage := .scan })
    ∧ (s.lineLen ≤ s.idx → 7 ≤ s.row → advanceScan s = { s with row := s.row + 1, stage := .pad })

/-- The glyph lookup (spec/43_render.md R165): by the byte itself in the non-legacy font, whatever the reverse flag; through `XLAT`, with
the variant and the reverse offset, in a legacy font. The lookup reads the tables at every index, whether a cell lists it or not
(spec/20_memory.md R56 to R58): `tableByte` is the listed byte, and where no cell lists the index a free value (log entry 10). -/
def Obligations.GlyphLookupReadsTheTables : Prop :=
  ∀ (s : State) (rvs : Bool) (b : Byte) (row : Nat), s.cfg.wf = true → row < 8 →
    glyphRow s .pc rvs b row = tableByte s .pglyph (b.toNat * 8 + row)
    ∧ glyphRow s .c64Upper rvs b row =
        tableByte s .lglyph (((tableByte s .xlat b.toNat).toNat + (if rvs then s.cfg.reverseOffset else 0)) * 8 + row)
    ∧ glyphRow s .c64Lower rvs b row =
        tableByte s .lglyph
          (((tableByte s .xlat b.toNat).toNat + s.cfg.variantOffset + (if rvs then s.cfg.reverseOffset else 0)) * 8 + row)

/-- The glyph index and the table addresses fit their widths without wrap (spec/30_encoding.md R86, spec/43_render.md R183): with the
default offsets the index is at most 639. The bound 1024 for other offsets is a hypothesis that log entry 19 puts into `Config.wf`,
and the spec marks R183 as its own inference. -/
def Obligations.GlyphAddressesFitTheirWidths : Prop :=
  ∀ (c : Config) (font : Font) (rvs : Bool) (sc b : Byte) (row : Nat), c.wf = true → row < 8 →
    glyphIndex c font rvs sc < 1024
    ∧ (lglyphAddr (glyphIndex c font rvs sc) row).toNat = glyphIndex c font rvs sc * 8 + row
    ∧ (pglyphAddr b row).toNat = b.toNat * 8 + row
    ∧ (c.variantOffset = 256 → c.reverseOffset = 128 → glyphIndex c font rvs sc ≤ 639)

/-- The padding row and the hand-over (spec/43_render.md R173, R175, spec/20_memory.md R52): row 8 is `BLANK`, rows 0 to 7 stay, and the
432 bytes of the bitmap go out in index order in one `print_raster(384, 9, ...)` call. -/
def Obligations.FinishedBitmapIsHandedOver : Prop :=
  ∀ s : State, s.stage = .pad → (sample s).pins.rst = false → (∀ a, a < 432 → (s.readByte .bmp a).isSome = true) →
    ∃ t bytes, step s = .next t ∧ t.trace = s.trace ++ [.printRaster 384 9 bytes] ∧ bytes.length = 432 ∧
      (∀ a, a < 432 → t.readByte .bmp a = bytes[a]?) ∧
      (∀ a, 384 ≤ a → a < 432 → t.readByte .bmp a = some s.cfg.blank) ∧
      (∀ a, a < 384 → t.readByte .bmp a = s.readByte .bmp a) ∧ SameBytesOutside .bmp s t ∧
      t.stage = .print ∧ t.prIdx = 0 ∧
      { t with
        bmp := s.bmp, trace := s.trace, stage := s.stage, prIdx := s.prIdx, pins := s.pins, tape := s.tape,
        svcDone := s.svcDone } = s

/-- In a `print_raster` call (spec/44_interfaces.md R207, spec/43_render.md R175, spec/42_ingest.md R152, R153): the transport takes the
432 bytes one by one; its acknowledgement after the last of them ends the call; only then `line_len <- 0`, and the listen loop
goes on. That an acknowledgement before the last byte is not looked at is log entry 15. -/
def Obligations.PrintReturnsThenTheLineIsReset : Prop :=
  ∀ s : State, s.stage = .print → (sample s).pins.rst = false →
    (s.prIdx < 432 → (sample s).pins.prReady = true → step s = .next { sample s with prIdx := s.prIdx + 1 })
    ∧ (432 ≤ s.prIdx → (sample s).pins.prAck = true → ∃ t, step s = .next t ∧ t.lineLen = 0 ∧
        (s.rxEod = true → t.stage = .complete ∧ t.crit = s.crit ∧ t.trace = s.trace) ∧
        (s.rxEod = false → t.stage = .rx ∧ t.crit = true ∧ t.trace = s.trace ++ [.receive]) ∧ SameBytes s t ∧
        { t with
          lineLen := s.lineLen, stage := s.stage, crit := s.crit, trace := s.trace, pins := s.pins, tape := s.tape,
          svcDone := s.svcDone } = s)

/-- The closed form of a rendered line (spec/43_render.md R184, with R176's row 0): from the start of the scan of row 0 over a cleared
bitmap, after the eight scans of the line's `n + 1` entries the bitmap holds, in row 0, the glyph bytes looked up with the font in
force from the start font `f0`, in rows 1 to 7 those from the font `f1` that row 0 ended with, one column for each printable
entry, `BLANK` elsewhere; and `font` is `f1`. The spec marks R184 as its own inference ("derived: from rules R160 to R176").
That the eight scans take `8 * (n + 1)` steps and none waits for a table is the model's choice (log entries 1 and 10): by
spec/70_reset_and_hazards.md R268 no claim about the hardware may depend on the count. -/
def Obligations.RenderedBitmapHasItsClosedForm : Prop :=
  ∀ s : State, s.cfg.wf = true → s.stage = .scan → s.row = 0 → s.idx = 0 → s.eol = false → s.rvs = false → s.skip = 0 →
    s.lineLen ≤ 48 → s.readByte .line s.lineLen = some s.cfg.codeCr →
    (∀ a, a < s.lineLen → ∃ b, s.readByte .line a = some b ∧ b ≠ s.cfg.codeCr) →
    (∀ a, a < 432 → s.readByte .bmp a = some s.cfg.blank) → (∀ p ∈ s.tape, p.rst = false) →
    ∃ t, steps (8 * (s.lineLen + 1)) s = .next t ∧ t.stage = .pad ∧
      t.font = fontBefore s.cfg s.line s.font s.lineLen ∧ t.line = s.line ∧ t.lineLen = s.lineLen ∧
      ∀ row col, row < 9 → col < 48 → t.readByte .bmp (row * 48 + col) = some (closedForm s s.lineLen s.font row col)

/-! ### Whole sessions and cycles -/

/-- A talk session (spec/41_sessions.md R134, R135): when the driver takes every byte at once, the bytes of the identification string go
out in order, the last and only the last with the end-of-transmission mark, nothing is printed, and the line, its length and the
font keep their values. That a byte takes one step is the model's choice (log entry 1): by spec/70_reset_and_hazards.md R268 no claim
about the hardware may depend on the count. -/
def Obligations.TalkSessionSendsTheIdentification : Prop :=
  ∀ (ch : Nibble) (s t : State) (rest : List Pins),
    s.tape = List.replicate s.cfg.idLen { txReady := true } ++ rest → exec (.dataT ch) s = .next t →
    ∃ u, steps s.cfg.idLen t = .next u ∧ u.stage = .complete ∧ u.trace = s.trace ++ replyEvents s.cfg ∧ u.tape = rest ∧
      u.font = s.font ∧ u.lineLen = s.lineLen ∧ SameBytesOutside .arg s u

/-- A whole service cycle with a command that has no data phase: any verb but `DATA`, or `DATA` command-only (spec/40_dispatch.md R100,
R106, R107, R110 to R116). From a core between cycles the state afterwards is as it was but for the latched command, the outcome
(the direction), and the record of what was called. That the cycle takes three steps is the model's choice (log entries 1 and 21): by
spec/70_reset_and_hazards.md R268 no claim about the hardware may depend on the count. -/
def Obligations.CycleWithoutDataPhaseLeavesTheStateAsItWas : Prop :=
  ∀ (s : State) (p0 p1 p2 : Pins) (rest : List Pins) (d : Dir) (verb low : Nibble),
    s.cfg.wf = true → s.stage = .host → s.phase = .idle → s.svcBusy = false → s.crit = false → s.tape = p0 :: p1 :: p2 :: rest →
    p0.rst = false → p0.init = false → p0.svcStart = true → (s.cfg.hasResetLine && p0.drvReset) = false →
    p1.rst = false → p1.atnAck = true → p1.atnRes = d.res → p1.atnCode = commandCode verb low →
    p1.atnArgLen % 2 ^ s.cfg.argWidth ≤ s.cfg.argMax → (verb ≠ s.cfg.verbData ∨ d = .command) → p2.rst = false →
    ∃ t, steps 3 s = .next t ∧
      t.outcome = (match d with
        | .talk => .talk
        | .listen => .listen
        | .command => .command) ∧
      t.cmdRes = d.res ∧ t.cmdCode = commandCode verb low ∧
      t.trace = s.trace ++ (if s.cfg.hasResetLine then [.detectReset] else []) ++ [.decodeAttention, .returned t.outcome] ∧
      SameBytesOutside .arg s t ∧
      { t with
        outcome := s.outcome, cmdRes := s.cmdRes, cmdCode := s.cmdCode, cmdArgLen := s.cmdArgLen, arg := s.arg,
        trace := s.trace, pollR := s.pollR, svcDone := s.svcDone, pins := s.pins, tape := s.tape } = s

/-- A whole service cycle whose reset poll answers true (spec/40_dispatch.md R100, R101, spec/60_exceptions.md R229): the attention decode
is not called, the registers are reset, the outcome is `RESET`. That the buffers, `ARG` among them, keep their bytes is log entry 16.
That the cycle takes two steps is the model's choice (log entries 1 and 21): by spec/70_reset_and_hazards.md R268 no claim about the hardware may depend on the count. -/
def Obligations.CycleWithBusResetDecodesNothing : Prop :=
  ∀ (s : State) (p0 p1 : Pins) (rest : List Pins), s.stage = .host → s.tape = p0 :: p1 :: rest → s.cfg.hasResetLine = true →
    p0.rst = false → p0.init = false → p0.svcStart = true → p0.drvReset = true → p1.rst = false →
    ∃ t, steps 2 s = .next t ∧ ResetRegisters s t ∧ t.outcome = .reset ∧ t.stage = .host ∧ t.svcBusy = false ∧
      t.trace = s.trace ++ [.detectReset, .returned .reset] ∧ SameBytes s t

/-- A bus reset in the middle of a listen session (spec/60_exceptions.md R222, R225, spec/44_interfaces.md R197): the signal is asserted
in some sample `a` while a `receive()` is pending. Under the two environment assumptions the `receive()` ends with an error, after
any number of samples, the cycle completes as `LISTEN`, and the next cycle, after any number of samples without a request, takes the
reset path: no `print_raster` call is made for the partial line, and the next session starts with an empty line and the default
font. The form of the first assumption, whose edge the spec leaves open, is log entry 26. That the buffers, `ARG` among them, keep
their bytes is log entry 16. That the rest takes four steps is the
model's choice (log entries 1 and 21): by spec/70_reset_and_hazards.md R268 no claim about the hardware may depend on the count. -/
def Obligations.BusResetInASessionDropsTheLine : Prop :=
  ∀ (s : State) (waiting idle : List Pins) (a answer completion poll word : Pins) (rest : List Pins),
    s.stage = .rx → s.cmdRes = Dir.listen.res → s.cfg.hasResetLine = true →
    s.tape = waiting ++ answer :: completion :: idle ++ poll :: word :: rest →
    (∀ p ∈ waiting, p.rst = false ∧ p.rxAck = false) → a ∈ waiting ++ [answer] → a.drvReset = true →
    ResetUnblocks waiting answer → answer.rst = false → completion.rst = false →
    (∀ p ∈ idle, p.rst = false ∧ p.init = false ∧ p.svcStart = false) →
    poll.rst = false → poll.init = false → poll.svcStart = true → ResetHeld a poll → word.rst = false →
    ∃ t, steps (waiting.length + idle.length + 4) s = .next t ∧ ResetRegisters s t ∧ t.outcome = .reset ∧ t.stage = .host ∧
      t.trace = s.trace ++ [.returned .listen, .detectReset, .returned .reset] ∧ SameBytes s t

/-- What a listen session forgets (spec/41_sessions.md R137, R138, R145): the font and the line length it finds have no influence on the
state in which its first `receive()` waits. That it waits after two steps is the model's choice (log entry 1): by
spec/70_reset_and_hazards.md R268 no claim about the hardware may depend on the count. -/
def Obligations.SessionForgetsFontAndLineLength : Prop :=
  ∀ (s : State) (f : Font) (n : Nat), s.stage = .fontSelect → steps 2 { s with font := f, lineLen := n } = steps 2 s

/-- The bitmap of an earlier render has no influence on a later one (spec/43_render.md R161, spec/70_reset_and_hazards.md R269): a flush
gives the same state whatever `BMP` held. -/
def Obligations.FlushForgetsTheOldBitmap : Prop :=
  ∀ (s : State) (m : Memory) (b : Byte),
    exec .ingCr { s with bmp := m } = exec .ingCr s
    ∧ (s.lineLen = 47 → exec (.ingChar b) { s with bmp := m } = exec (.ingChar b) s)

/-! ### Rules over all steps -/

/-- The invariant holds after reset (spec/10_state.md R46; the registers R46 leaves unspecified hold 0, log entry 8). -/
def Obligations.ResetStateMeetsTheInvariant : Prop := Inv State.reset

/-- Every step keeps the invariant: the canonical form of the memories, the phase of each stage, `crit` exactly during the two calls
(spec/44_interfaces.md R199), at most 47 entries between ingests, none of them the carriage return (spec/42_ingest.md R155), and
`skip` and `rvs` functions of the line and the index alone, the same in all rows (spec/43_render.md R177). The stages are the
model's own (log entry 1); the spec marks R155 as its own inference ("derived: from rules R150 to R153"). -/
def Obligations.EveryStepKeepsTheInvariant : Prop :=
  ∀ s t : State, Inv s → step s = .next t → Inv t

/-- From a state that meets the invariant, no step stops but for a call that never returns or a driver that breaks its contract: no
index is out of range and no unwritten byte is read (spec/20_memory.md R50, spec/42_ingest.md R155 (c), spec/43_render.md R183, which the
spec marks as its own inferences). With `ResetStateMeetsTheInvariant` and `EveryStepKeepsTheInvariant` it holds of every state of a
run from reset. That a table read cannot stall is the model's choice (log entry 10). -/
def Obligations.InvariantStatesStopSafely : Prop :=
  ∀ s : State, Inv s → (∃ t, step s = .next t) ∨ SafeStop (step s)

/-- How `phase` advances (spec/10_state.md R23): it leaves `IDLE` only at the dispatch of a service word, and returns to `IDLE` only by
completion or by a hardware reset. The spec marks R23 as its own inference ("derived: from 40_dispatch.md rules R100 to R117"). -/
def Obligations.PhaseMovesOnlyFromAndToIdle : Prop :=
  ∀ s t : State, Inv s → step s = .next t → t.phase ≠ s.phase →
    (s.phase = .idle ∧ s.stage = .sw) ∨ (t.phase = .idle ∧ (s.stage = .complete ∨ (sample s).pins.rst = true))

/-- The parameters and the font tables never change (spec/20_memory.md R56 to R58, R63 (c)). -/
def Obligations.ParametersAndTablesNeverChange : Prop :=
  ∀ s t : State, step s = .next t → t.cfg = s.cfg ∧ ∀ sp a, (sp = .xlat ∨ sp = .lglyph ∨ sp = .pglyph) →
    t.readByte sp a = s.readByte sp a

/-- Who writes `font` (spec/10_state.md R28): the reset routine, for one of its causes; the font selection; and, in a font of the legacy
family, the two case codes where the scan stands at one, each with its own variant. -/
def Obligations.FontHasThreeWriters : Prop :=
  ∀ s t : State, step s = .next t → t.font ≠ s.font →
    (t.font = .c64Upper ∧ ResetCause (sample s))
    ∨ s.stage = .fontSelect
    ∨ (s.stage = .scan ∧ s.font.legacy = true ∧
        ((s.readByte .line s.idx = some s.cfg.codeCaseLower ∧ t.font = .c64Lower)
        ∨ (s.readByte .line s.idx = some s.cfg.codeCaseUpper ∧ t.font = .c64Upper)))

/-- Who writes `pending_err` (spec/10_state.md R29): the reset routine, for one of its causes, with `ERR_DEFAULT`. -/
def Obligations.PendingErrorIsWrittenByResetOnly : Prop :=
  ∀ s t : State, step s = .next t → t.pendingErr = s.pendingErr ∨ (t.pendingErr = s.cfg.errDefault ∧ ResetCause (sample s))

/-- The record of observable events (spec/00_scope.md R16) only grows. The record itself is the model's (log entry 14), and so is which
calls share a step, at most two (log entries 1 and 21): by spec/70_reset_and_hazards.md R268 no claim about the hardware may depend on
the count. -/
def Obligations.EventsAreOnlyAppended : Prop :=
  ∀ s t : State, step s = .next t → ∃ es, t.trace = s.trace ++ es ∧ es.length ≤ 2

/-- Every `print_raster` call has `widthBits = 384`, `rowCount = 9` and the 432 bytes of `BMP` in index order (spec/30_encoding.md R92),
and is made at the end of a render (spec/42_ingest.md R154). The two numbers are the spec's own inference (R92: "derived: from
`COLS` = 48 bytes of 8 bits and `ROWS + PAD_ROWS` = 9"). -/
def Obligations.EveryPrintIs384By9 : Prop :=
  ∀ (s t : State) (es : List Event) (w r : Nat) (bytes : List Byte), step s = .next t → t.trace = s.trace ++ es →
    .printRaster w r bytes ∈ es →
    s.stage = .pad ∧ w = 384 ∧ r = 9 ∧ bytes.length = 432 ∧ ∀ a, a < 432 → t.readByte .bmp a = bytes[a]?

/-- Inside a service cycle the core looks neither at the reset line nor at the host's requests (spec/60_exceptions.md R222,
spec/44_interfaces.md R204): with other values on these three ports the step does the same. -/
def Obligations.InsideACycleResetLineAndHostAreNotLookedAt : Prop :=
  ∀ (s : State) (p : Pins) (rest : List Pins) (a b c : Bool), s.tape = p :: rest → s.stage ≠ .host →
    let s' := { s with tape := { p with drvReset := a, init := b, svcStart := c } :: rest }
    (∃ t, step s = .next t ∧ step s' = .next { t with pins := { p with drvReset := a, init := b, svcStart := c } })
    ∨ (∃ f, step s = .fault f ∧ step s' = .fault f) ∨ (∃ r, step s = .refused r ∧ step s' = .refused r)

/-- At most one of the core's requests is up at any time, and bitmap bytes are offered only inside a `print_raster` call
(spec/44_interfaces.md R208, the spec's own inference: "derived: from 00_scope.md rule R14"; the font-table requests are inside
the block, log entry 10). -/
def Obligations.AtMostOneRequestIsUp : Prop :=
  ∀ s : State,
    ([(outputs s).atnReq, (outputs s).txValid, (outputs s).rxReq, (outputs s).prReq].filter id).length ≤ 1
    ∧ ((outputs s).prValid = true → (outputs s).prReq = true)
end

