-- ==== Sys2Proof/Laws/Memory.lean ====
section
/-! SUPPORT. What the memory operations do, read through one byte, and that each keeps the canonical form. -/
namespace Sys2Proof.Machine

@[simp] theorem Memory.read_nil (a : Nat) : Memory.read [] a = none := rfl

@[simp] theorem Memory.read_cons (k : Nat) (v : Byte) (m : Memory) (a : Nat) :
    Memory.read ((k, v) :: m) a = if k = a then some v else m.read a := rfl

/-- The one law of a write: it changes the byte at its index and no other. -/
theorem Memory.read_write (m : Memory) (a : Nat) (v : Byte) (b : Nat) :
    (m.write a v).read b = if b = a then some v else m.read b := by
  induction m with
  | nil => simp [Memory.write, eq_comm]
  | cons x m ih =>
    obtain ⟨k, w⟩ := x
    simp only [Memory.write]
    split
    · by_cases h : b = a <;> simp_all [eq_comm]
    · split
      · by_cases h : b = a <;> simp_all [eq_comm]
      · by_cases h : b = a
        · subst h; simp_all [eq_comm]
        · simp_all

@[simp] theorem Memory.read_write_same (m : Memory) (a : Nat) (v : Byte) : (m.write a v).read a = some v := by
  simp [Memory.read_write]

theorem Memory.read_write_other (m : Memory) {a b : Nat} (v : Byte) (h : b ≠ a) : (m.write a v).read b = m.read b := by
  simp [Memory.read_write, h]

/-! ### The canonical form -/

theorem Memory.rising_cons_iff (k : Nat) (v : Byte) (m : Memory) :
    Memory.rising ((k, v) :: m) = true ↔ (∀ x ∈ m, k < x.1) ∧ m.rising = true := by
  induction m generalizing k v with
  | nil => simp [Memory.rising]
  | cons y m ih =>
    obtain ⟨j, w⟩ := y
    simp only [Memory.rising, Bool.and_eq_true, decide_eq_true_eq, List.mem_cons, forall_eq_or_imp]
    constructor
    · rintro ⟨h, hr⟩
      exact ⟨⟨h, fun x hx => Nat.lt_trans h (((ih j w).1 hr).1 x hx)⟩, hr⟩
    · rintro ⟨⟨h, -⟩, hr⟩
      exact ⟨h, hr⟩

theorem Memory.mem_write {m : Memory} {a : Nat} {v : Byte} {x : Host.Cell} (h : x ∈ m.write a v) : x = (a, v) ∨ x ∈ m := by
  induction m with
  | nil => simpa [Memory.write] using h
  | cons y m ih =>
    obtain ⟨k, w⟩ := y
    simp only [Memory.write] at h
    split at h
    · simpa using h
    · split at h
      · simp only [List.mem_cons] at h ⊢; tauto
      · simp only [List.mem_cons] at h ⊢
        rcases h with h | h
        · exact .inr (.inl h)
        · exact (ih h).imp_right .inr

theorem Memory.rising_write {m : Memory} (h : m.rising = true) (a : Nat) (v : Byte) : (m.write a v).rising = true := by
  induction m with
  | nil => rfl
  | cons y m ih =>
    obtain ⟨k, w⟩ := y
    have hm := (Memory.rising_cons_iff k w m).1 h
    simp only [Memory.write]
    split
    · rename_i hak
      refine (Memory.rising_cons_iff _ _ _).2 ⟨fun x hx => ?_, h⟩
      rcases List.mem_cons.1 hx with rfl | hx
      · exact hak
      · exact Nat.lt_trans hak (hm.1 x hx)
    · split
      · rename_i _ hak
        subst hak
        exact (Memory.rising_cons_iff _ _ _).2 hm
      · refine (Memory.rising_cons_iff _ _ _).2 ⟨fun x hx => ?_, ih hm.2⟩
        rcases Memory.mem_write hx with rfl | hx
        · simp only; omega
        · exact hm.1 x hx

theorem Memory.wf_iff (m : Memory) (size : Nat) : m.wf size = true ↔ m.rising = true ∧ ∀ x ∈ m, x.1 < size := by
  simp [Memory.wf]

/-- A write in range keeps the canonical form. -/
theorem Memory.wf_write {m : Memory} {size : Nat} (h : m.wf size = true) {a : Nat} (ha : a < size) (v : Byte) :
    (m.write a v).wf size = true := by
  rw [Memory.wf_iff] at h ⊢
  refine ⟨Memory.rising_write h.1 a v, fun x hx => ?_⟩
  rcases Memory.mem_write hx with rfl | hx
  · exact ha
  · exact h.2 x hx

/-! ### Whole-buffer operations -/

theorem Memory.read_writeRun (n : Nat) (m : Memory) (a : Nat) (v : Byte) (b : Nat) :
    (m.writeRun a v n).read b = if a ≤ b ∧ b < a + n then some v else m.read b := by
  induction n generalizing m a with
  | zero => simp only [Memory.writeRun]; rw [if_neg (by omega)]
  | succ n ih =>
    simp only [Memory.writeRun, ih, Memory.read_write]
    split <;> split <;> first | rfl | (split <;> first | rfl | omega) | omega

theorem Memory.wf_writeRun (n : Nat) {m : Memory} {size : Nat} (h : m.wf size = true) {a : Nat} (ha : a + n ≤ size) (v : Byte) :
    (m.writeRun a v n).wf size = true := by
  induction n generalizing m a with
  | zero => exact h
  | succ n ih => exact ih (Memory.wf_write h (by omega) v) (by omega)

theorem Memory.read_ofBytes (vs : List Byte) (a b : Nat) :
    (Memory.ofBytes a vs).read b = if a ≤ b then vs[b - a]? else none := by
  induction vs generalizing a with
  | nil => simp [Memory.ofBytes]
  | cons v vs ih =>
    simp only [Memory.ofBytes, Memory.read_cons, ih]
    by_cases h : a = b
    · subst h; simp
    · by_cases h2 : a ≤ b
      · obtain ⟨d, rfl⟩ : ∃ d, b = a + 1 + d := ⟨b - (a + 1), by omega⟩
        rw [if_neg h, if_pos (by omega), if_pos h2]
        have h3 : a + 1 + d - a = d + 1 := by omega
        have h4 : a + 1 + d - (a + 1) = d := by omega
        simp [h3, h4]
      · rw [if_neg h, if_neg (by omega), if_neg h2]

theorem Memory.wf_ofBytes (vs : List Byte) (a size : Nat) (h : a + vs.length ≤ size) :
    (Memory.ofBytes a vs).wf size = true ∧ ∀ x ∈ Memory.ofBytes a vs, a ≤ x.1 := by
  induction vs generalizing a with
  | nil => simp [Memory.ofBytes, Memory.wf, Memory.rising]
  | cons v vs ih =>
    simp only [List.length_cons] at h
    obtain ⟨hw, hl⟩ := ih (a + 1) (by omega)
    rw [Memory.wf_iff] at hw ⊢
    simp only [Memory.ofBytes, List.mem_cons, forall_eq_or_imp]
    refine ⟨⟨(Memory.rising_cons_iff _ _ _).2 ⟨fun x hx => by have := hl x hx; omega, hw.1⟩, by omega, hw.2⟩, le_refl a, fun x hx => by
      have := hl x hx; omega⟩

/-- A filled buffer is the buffer of as many equal bytes. -/
theorem Memory.read_fill (n : Nat) (v : Byte) (b : Nat) : (Memory.fill n v).read b = if b < n then some v else none := by
  have key : ∀ (l : List Nat), Memory.read (l.map fun a => (a, v)) b = if b ∈ l then some v else none := by
    intro l
    induction l with
    | nil => simp
    | cons x l ih =>
      simp only [List.map_cons, Memory.read_cons, ih, List.mem_cons]
      by_cases h : x = b
      · simp [h]
      · simp [h, Ne.symm h]
  simpa [Memory.fill] using key (List.range n)

theorem Memory.wf_fill (n : Nat) (v : Byte) : (Memory.fill n v).wf n = true := by
  have key : ∀ (k a : Nat), Memory.rising ((List.range' a k).map fun i => (i, v)) = true := by
    intro k
    induction k with
    | zero => intro a; rfl
    | succ k ih =>
      intro a
      rw [List.range'_succ, List.map_cons]
      refine (Memory.rising_cons_iff _ _ _).2 ⟨fun x hx => ?_, ih (a + 1)⟩
      simp only [List.mem_map, List.mem_range'_1] at hx
      obtain ⟨i, hi, rfl⟩ := hx
      simp only; omega
  rw [Memory.wf_iff]
  refine ⟨by simpa [Memory.fill, List.range_eq_range'] using key n 0, fun x hx => ?_⟩
  simp only [Memory.fill, List.mem_map, List.mem_range] at hx
  obtain ⟨i, hi, rfl⟩ := hx
  exact hi

/-- A run of bytes that are all there is read in index order. -/
theorem Memory.readRun_ok (m : Memory) (n a : Nat) (h : ∀ i, i < n → (m.read (a + i)).isSome = true) :
    ∃ bs, m.readRun a n = .ok bs ∧ bs.length = n ∧ ∀ i, i < n → bs[i]? = m.read (a + i) := by
  induction n generalizing a with
  | zero => exact ⟨[], rfl, rfl, fun i hi => absurd hi (by omega)⟩
  | succ n ih =>
    obtain ⟨v, hv⟩ := Option.isSome_iff_exists.1 (h 0 (by omega))
    obtain ⟨bs, hbs, hl, hr⟩ := ih (a + 1) (fun i hi => by
      have := h (i + 1) (by omega)
      rwa [show a + (i + 1) = a + 1 + i by omega] at this)
    refine ⟨v :: bs, ?_, by simp [hl], fun i hi => ?_⟩
    · simp only [Nat.add_zero] at hv
      simp only [Memory.readRun, hv, hbs]
    · cases i with
      | zero => simpa using hv.symm
      | succ i =>
        have := hr i (by omega)
        rw [show a + (i + 1) = a + 1 + i by omega]
        simpa using this

/-- What a run of bytes that could be read holds. -/
theorem Memory.readRun_spec (m : Memory) (n a : Nat) (bs : List Byte) (h : m.readRun a n = .ok bs) :
    bs.length = n ∧ ∀ i, i < n → m.read (a + i) = bs[i]? := by
  induction n generalizing a bs with
  | zero => simp only [Memory.readRun, Except.ok.injEq] at h; subst h; simp
  | succ n ih =>
    simp only [Memory.readRun] at h
    split at h
    · cases h
    · rename_i v hv
      split at h
      · rename_i vs hvs
        simp only [Except.ok.injEq] at h
        subst h
        obtain ⟨hl, hr⟩ := ih (a + 1) vs hvs
        refine ⟨by simp [hl], fun i hi => ?_⟩
        cases i with
        | zero => simpa using hv
        | succ i => rw [show a + (i + 1) = a + 1 + i by omega, hr i (by omega)]; simp
      · cases h

end Sys2Proof.Machine
end

