-- ==== Sys2Proof/Laws/State.lean ====
section
/-! SUPPORT. For each named update of the state, what it leaves in each field, so that no later proof unfolds a record update. -/
namespace Sys2Proof.Machine

/-! ### emit -/

@[simp] theorem emit_phase (e : Event) (s : State) : (emit e s).phase = s.phase := rfl
@[simp] theorem emit_openState (e : Event) (s : State) : (emit e s).openState = s.openState := rfl
@[simp] theorem emit_font (e : Event) (s : State) : (emit e s).font = s.font := rfl
@[simp] theorem emit_pendingErr (e : Event) (s : State) : (emit e s).pendingErr = s.pendingErr := rfl
@[simp] theorem emit_cmdRes (e : Event) (s : State) : (emit e s).cmdRes = s.cmdRes := rfl
@[simp] theorem emit_cmdCode (e : Event) (s : State) : (emit e s).cmdCode = s.cmdCode := rfl
@[simp] theorem emit_cmdArgLen (e : Event) (s : State) : (emit e s).cmdArgLen = s.cmdArgLen := rfl
@[simp] theorem emit_outcome (e : Event) (s : State) : (emit e s).outcome = s.outcome := rfl
@[simp] theorem emit_lineLen (e : Event) (s : State) : (emit e s).lineLen = s.lineLen := rfl
@[simp] theorem emit_txIdx (e : Event) (s : State) : (emit e s).txIdx = s.txIdx := rfl
@[simp] theorem emit_rxByte (e : Event) (s : State) : (emit e s).rxByte = s.rxByte := rfl
@[simp] theorem emit_rxEod (e : Event) (s : State) : (emit e s).rxEod = s.rxEod := rfl
@[simp] theorem emit_rxErr (e : Event) (s : State) : (emit e s).rxErr = s.rxErr := rfl
@[simp] theorem emit_row (e : Event) (s : State) : (emit e s).row = s.row := rfl
@[simp] theorem emit_idx (e : Event) (s : State) : (emit e s).idx = s.idx := rfl
@[simp] theorem emit_eol (e : Event) (s : State) : (emit e s).eol = s.eol := rfl
@[simp] theorem emit_rvs (e : Event) (s : State) : (emit e s).rvs = s.rvs := rfl
@[simp] theorem emit_skip (e : Event) (s : State) : (emit e s).skip = s.skip := rfl
@[simp] theorem emit_crit (e : Event) (s : State) : (emit e s).crit = s.crit := rfl
@[simp] theorem emit_line (e : Event) (s : State) : (emit e s).line = s.line := rfl
@[simp] theorem emit_bmp (e : Event) (s : State) : (emit e s).bmp = s.bmp := rfl
@[simp] theorem emit_arg (e : Event) (s : State) : (emit e s).arg = s.arg := rfl
@[simp] theorem emit_xlat (e : Event) (s : State) : (emit e s).xlat = s.xlat := rfl
@[simp] theorem emit_lglyph (e : Event) (s : State) : (emit e s).lglyph = s.lglyph := rfl
@[simp] theorem emit_pglyph (e : Event) (s : State) : (emit e s).pglyph = s.pglyph := rfl
@[simp] theorem emit_svcBusy (e : Event) (s : State) : (emit e s).svcBusy = s.svcBusy := rfl
@[simp] theorem emit_svcDone (e : Event) (s : State) : (emit e s).svcDone = s.svcDone := rfl
@[simp] theorem emit_cfg (e : Event) (s : State) : (emit e s).cfg = s.cfg := rfl
@[simp] theorem emit_stage (e : Event) (s : State) : (emit e s).stage = s.stage := rfl
@[simp] theorem emit_pollR (e : Event) (s : State) : (emit e s).pollR = s.pollR := rfl
@[simp] theorem emit_prIdx (e : Event) (s : State) : (emit e s).prIdx = s.prIdx := rfl
@[simp] theorem emit_pins (e : Event) (s : State) : (emit e s).pins = s.pins := rfl
@[simp] theorem emit_tape (e : Event) (s : State) : (emit e s).tape = s.tape := rfl
@[simp] theorem emit_trace (e : Event) (s : State) : (emit e s).trace = s.trace ++ [e] := rfl

/-! ### doReset -/

@[simp] theorem doReset_phase (s : State) : (doReset s).phase = .idle := rfl
@[simp] theorem doReset_openState (s : State) : (doReset s).openState = .nothing := rfl
@[simp] theorem doReset_font (s : State) : (doReset s).font = .c64Upper := rfl
@[simp] theorem doReset_pendingErr (s : State) : (doReset s).pendingErr = s.cfg.errDefault := rfl
@[simp] theorem doReset_cmdRes (s : State) : (doReset s).cmdRes = s.cmdRes := rfl
@[simp] theorem doReset_cmdCode (s : State) : (doReset s).cmdCode = s.cmdCode := rfl
@[simp] theorem doReset_cmdArgLen (s : State) : (doReset s).cmdArgLen = s.cmdArgLen := rfl
@[simp] theorem doReset_outcome (s : State) : (doReset s).outcome = s.outcome := rfl
@[simp] theorem doReset_lineLen (s : State) : (doReset s).lineLen = 0 := rfl
@[simp] theorem doReset_txIdx (s : State) : (doReset s).txIdx = s.txIdx := rfl
@[simp] theorem doReset_rxByte (s : State) : (doReset s).rxByte = s.rxByte := rfl
@[simp] theorem doReset_rxEod (s : State) : (doReset s).rxEod = s.rxEod := rfl
@[simp] theorem doReset_rxErr (s : State) : (doReset s).rxErr = s.rxErr := rfl
@[simp] theorem doReset_row (s : State) : (doReset s).row = s.row := rfl
@[simp] theorem doReset_idx (s : State) : (doReset s).idx = s.idx := rfl
@[simp] theorem doReset_eol (s : State) : (doReset s).eol = s.eol := rfl
@[simp] theorem doReset_rvs (s : State) : (doReset s).rvs = s.rvs := rfl
@[simp] theorem doReset_skip (s : State) : (doReset s).skip = s.skip := rfl
@[simp] theorem doReset_crit (s : State) : (doReset s).crit = false := rfl
@[simp] theorem doReset_line (s : State) : (doReset s).line = s.line := rfl
@[simp] theorem doReset_bmp (s : State) : (doReset s).bmp = s.bmp := rfl
@[simp] theorem doReset_arg (s : State) : (doReset s).arg = s.arg := rfl
@[simp] theorem doReset_xlat (s : State) : (doReset s).xlat = s.xlat := rfl
@[simp] theorem doReset_lglyph (s : State) : (doReset s).lglyph = s.lglyph := rfl
@[simp] theorem doReset_pglyph (s : State) : (doReset s).pglyph = s.pglyph := rfl
@[simp] theorem doReset_svcBusy (s : State) : (doReset s).svcBusy = s.svcBusy := rfl
@[simp] theorem doReset_svcDone (s : State) : (doReset s).svcDone = s.svcDone := rfl
@[simp] theorem doReset_cfg (s : State) : (doReset s).cfg = s.cfg := rfl
@[simp] theorem doReset_stage (s : State) : (doReset s).stage = s.stage := rfl
@[simp] theorem doReset_pollR (s : State) : (doReset s).pollR = s.pollR := rfl
@[simp] theorem doReset_prIdx (s : State) : (doReset s).prIdx = s.prIdx := rfl
@[simp] theorem doReset_pins (s : State) : (doReset s).pins = s.pins := rfl
@[simp] theorem doReset_tape (s : State) : (doReset s).tape = s.tape := rfl
@[simp] theorem doReset_trace (s : State) : (doReset s).trace = s.trace := rfl

/-! ### hardwareReset -/

@[simp] theorem hardwareReset_phase (s : State) : (hardwareReset s).phase = .idle := rfl
@[simp] theorem hardwareReset_openState (s : State) : (hardwareReset s).openState = .nothing := rfl
@[simp] theorem hardwareReset_font (s : State) : (hardwareReset s).font = .c64Upper := rfl
@[simp] theorem hardwareReset_pendingErr (s : State) : (hardwareReset s).pendingErr = s.cfg.errDefault := rfl
@[simp] theorem hardwareReset_cmdRes (s : State) : (hardwareReset s).cmdRes = s.cmdRes := rfl
@[simp] theorem hardwareReset_cmdCode (s : State) : (hardwareReset s).cmdCode = s.cmdCode := rfl
@[simp] theorem hardwareReset_cmdArgLen (s : State) : (hardwareReset s).cmdArgLen = s.cmdArgLen := rfl
@[simp] theorem hardwareReset_outcome (s : State) : (hardwareReset s).outcome = s.outcome := rfl
@[simp] theorem hardwareReset_lineLen (s : State) : (hardwareReset s).lineLen = 0 := rfl
@[simp] theorem hardwareReset_txIdx (s : State) : (hardwareReset s).txIdx = s.txIdx := rfl
@[simp] theorem hardwareReset_rxByte (s : State) : (hardwareReset s).rxByte = s.rxByte := rfl
@[simp] theorem hardwareReset_rxEod (s : State) : (hardwareReset s).rxEod = s.rxEod := rfl
@[simp] theorem hardwareReset_rxErr (s : State) : (hardwareReset s).rxErr = s.rxErr := rfl
@[simp] theorem hardwareReset_row (s : State) : (hardwareReset s).row = s.row := rfl
@[simp] theorem hardwareReset_idx (s : State) : (hardwareReset s).idx = s.idx := rfl
@[simp] theorem hardwareReset_eol (s : State) : (hardwareReset s).eol = s.eol := rfl
@[simp] theorem hardwareReset_rvs (s : State) : (hardwareReset s).rvs = s.rvs := rfl
@[simp] theorem hardwareReset_skip (s : State) : (hardwareReset s).skip = s.skip := rfl
@[simp] theorem hardwareReset_crit (s : State) : (hardwareReset s).crit = false := rfl
@[simp] theorem hardwareReset_line (s : State) : (hardwareReset s).line = s.line := rfl
@[simp] theorem hardwareReset_bmp (s : State) : (hardwareReset s).bmp = s.bmp := rfl
@[simp] theorem hardwareReset_arg (s : State) : (hardwareReset s).arg = s.arg := rfl
@[simp] theorem hardwareReset_xlat (s : State) : (hardwareReset s).xlat = s.xlat := rfl
@[simp] theorem hardwareReset_lglyph (s : State) : (hardwareReset s).lglyph = s.lglyph := rfl
@[simp] theorem hardwareReset_pglyph (s : State) : (hardwareReset s).pglyph = s.pglyph := rfl
@[simp] theorem hardwareReset_svcBusy (s : State) : (hardwareReset s).svcBusy = false := rfl
@[simp] theorem hardwareReset_svcDone (s : State) : (hardwareReset s).svcDone = false := rfl
@[simp] theorem hardwareReset_cfg (s : State) : (hardwareReset s).cfg = s.cfg := rfl
@[simp] theorem hardwareReset_stage (s : State) : (hardwareReset s).stage = .host := rfl
@[simp] theorem hardwareReset_pollR (s : State) : (hardwareReset s).pollR = s.pollR := rfl
@[simp] theorem hardwareReset_prIdx (s : State) : (hardwareReset s).prIdx = s.prIdx := rfl
@[simp] theorem hardwareReset_pins (s : State) : (hardwareReset s).pins = s.pins := rfl
@[simp] theorem hardwareReset_tape (s : State) : (hardwareReset s).tape = s.tape := rfl
@[simp] theorem hardwareReset_trace (s : State) : (hardwareReset s).trace = s.trace := rfl

/-! ### returnCycle -/

@[simp] theorem returnCycle_phase (oc : OutcomeCode) (s : State) : (returnCycle oc s).phase = s.phase := rfl
@[simp] theorem returnCycle_openState (oc : OutcomeCode) (s : State) : (returnCycle oc s).openState = s.openState := rfl
@[simp] theorem returnCycle_font (oc : OutcomeCode) (s : State) : (returnCycle oc s).font = s.font := rfl
@[simp] theorem returnCycle_pendingErr (oc : OutcomeCode) (s : State) : (returnCycle oc s).pendingErr = s.pendingErr := rfl
@[simp] theorem returnCycle_cmdRes (oc : OutcomeCode) (s : State) : (returnCycle oc s).cmdRes = s.cmdRes := rfl
@[simp] theorem returnCycle_cmdCode (oc : OutcomeCode) (s : State) : (returnCycle oc s).cmdCode = s.cmdCode := rfl
@[simp] theorem returnCycle_cmdArgLen (oc : OutcomeCode) (s : State) : (returnCycle oc s).cmdArgLen = s.cmdArgLen := rfl
@[simp] theorem returnCycle_outcome (oc : OutcomeCode) (s : State) : (returnCycle oc s).outcome = oc := rfl
@[simp] theorem returnCycle_lineLen (oc : OutcomeCode) (s : State) : (returnCycle oc s).lineLen = s.lineLen := rfl
@[simp] theorem returnCycle_txIdx (oc : OutcomeCode) (s : State) : (returnCycle oc s).txIdx = s.txIdx := rfl
@[simp] theorem returnCycle_rxByte (oc : OutcomeCode) (s : State) : (returnCycle oc s).rxByte = s.rxByte := rfl
@[simp] theorem returnCycle_rxEod (oc : OutcomeCode) (s : State) : (returnCycle oc s).rxEod = s.rxEod := rfl
@[simp] theorem returnCycle_rxErr (oc : OutcomeCode) (s : State) : (returnCycle oc s).rxErr = s.rxErr := rfl
@[simp] theorem returnCycle_row (oc : OutcomeCode) (s : State) : (returnCycle oc s).row = s.row := rfl
@[simp] theorem returnCycle_idx (oc : OutcomeCode) (s : State) : (returnCycle oc s).idx = s.idx := rfl
@[simp] theorem returnCycle_eol (oc : OutcomeCode) (s : State) : (returnCycle oc s).eol = s.eol := rfl
@[simp] theorem returnCycle_rvs (oc : OutcomeCode) (s : State) : (returnCycle oc s).rvs = s.rvs := rfl
@[simp] theorem returnCycle_skip (oc : OutcomeCode) (s : State) : (returnCycle oc s).skip = s.skip := rfl
@[simp] theorem returnCycle_crit (oc : OutcomeCode) (s : State) : (returnCycle oc s).crit = s.crit := rfl
@[simp] theorem returnCycle_line (oc : OutcomeCode) (s : State) : (returnCycle oc s).line = s.line := rfl
@[simp] theorem returnCycle_bmp (oc : OutcomeCode) (s : State) : (returnCycle oc s).bmp = s.bmp := rfl
@[simp] theorem returnCycle_arg (oc : OutcomeCode) (s : State) : (returnCycle oc s).arg = s.arg := rfl
@[simp] theorem returnCycle_xlat (oc : OutcomeCode) (s : State) : (returnCycle oc s).xlat = s.xlat := rfl
@[simp] theorem returnCycle_lglyph (oc : OutcomeCode) (s : State) : (returnCycle oc s).lglyph = s.lglyph := rfl
@[simp] theorem returnCycle_pglyph (oc : OutcomeCode) (s : State) : (returnCycle oc s).pglyph = s.pglyph := rfl
@[simp] theorem returnCycle_svcBusy (oc : OutcomeCode) (s : State) : (returnCycle oc s).svcBusy = false := rfl
@[simp] theorem returnCycle_svcDone (oc : OutcomeCode) (s : State) : (returnCycle oc s).svcDone = true := rfl
@[simp] theorem returnCycle_cfg (oc : OutcomeCode) (s : State) : (returnCycle oc s).cfg = s.cfg := rfl
@[simp] theorem returnCycle_stage (oc : OutcomeCode) (s : State) : (returnCycle oc s).stage = .host := rfl
@[simp] theorem returnCycle_pollR (oc : OutcomeCode) (s : State) : (returnCycle oc s).pollR = s.pollR := rfl
@[simp] theorem returnCycle_prIdx (oc : OutcomeCode) (s : State) : (returnCycle oc s).prIdx = s.prIdx := rfl
@[simp] theorem returnCycle_pins (oc : OutcomeCode) (s : State) : (returnCycle oc s).pins = s.pins := rfl
@[simp] theorem returnCycle_tape (oc : OutcomeCode) (s : State) : (returnCycle oc s).tape = s.tape := rfl
@[simp] theorem returnCycle_trace (oc : OutcomeCode) (s : State) : (returnCycle oc s).trace = s.trace ++ [.returned oc] := rfl

/-! ### latchCommand -/

@[simp] theorem latchCommand_phase (d : Dir) (code : Byte) (s : State) : (latchCommand d code s).phase = s.phase := rfl
@[simp] theorem latchCommand_openState (d : Dir) (code : Byte) (s : State) : (latchCommand d code s).openState = s.openState := rfl
@[simp] theorem latchCommand_font (d : Dir) (code : Byte) (s : State) : (latchCommand d code s).font = s.font := rfl
@[simp] theorem latchCommand_pendingErr (d : Dir) (code : Byte) (s : State) : (latchCommand d code s).pendingErr = s.pendingErr := rfl
@[simp] theorem latchCommand_cmdRes (d : Dir) (code : Byte) (s : State) : (latchCommand d code s).cmdRes = d.res := rfl
@[simp] theorem latchCommand_cmdCode (d : Dir) (code : Byte) (s : State) : (latchCommand d code s).cmdCode = code := rfl
@[simp] theorem latchCommand_cmdArgLen (d : Dir) (code : Byte) (s : State) : (latchCommand d code s).cmdArgLen = argLenIn s := rfl
@[simp] theorem latchCommand_outcome (d : Dir) (code : Byte) (s : State) : (latchCommand d code s).outcome = s.outcome := rfl
@[simp] theorem latchCommand_lineLen (d : Dir) (code : Byte) (s : State) : (latchCommand d code s).lineLen = s.lineLen := rfl
@[simp] theorem latchCommand_txIdx (d : Dir) (code : Byte) (s : State) : (latchCommand d code s).txIdx = s.txIdx := rfl
@[simp] theorem latchCommand_rxByte (d : Dir) (code : Byte) (s : State) : (latchCommand d code s).rxByte = s.rxByte := rfl
@[simp] theorem latchCommand_rxEod (d : Dir) (code : Byte) (s : State) : (latchCommand d code s).rxEod = s.rxEod := rfl
@[simp] theorem latchCommand_rxErr (d : Dir) (code : Byte) (s : State) : (latchCommand d code s).rxErr = s.rxErr := rfl
@[simp] theorem latchCommand_row (d : Dir) (code : Byte) (s : State) : (latchCommand d code s).row = s.row := rfl
@[simp] theorem latchCommand_idx (d : Dir) (code : Byte) (s : State) : (latchCommand d code s).idx = s.idx := rfl
@[simp] theorem latchCommand_eol (d : Dir) (code : Byte) (s : State) : (latchCommand d code s).eol = s.eol := rfl
@[simp] theorem latchCommand_rvs (d : Dir) (code : Byte) (s : State) : (latchCommand d code s).rvs = s.rvs := rfl
@[simp] theorem latchCommand_skip (d : Dir) (code : Byte) (s : State) : (latchCommand d code s).skip = s.skip := rfl
@[simp] theorem latchCommand_crit (d : Dir) (code : Byte) (s : State) : (latchCommand d code s).crit = false := rfl
@[simp] theorem latchCommand_line (d : Dir) (code : Byte) (s : State) : (latchCommand d code s).line = s.line := rfl
@[simp] theorem latchCommand_bmp (d : Dir) (code : Byte) (s : State) : (latchCommand d code s).bmp = s.bmp := rfl
@[simp] theorem latchCommand_arg (d : Dir) (code : Byte) (s : State) : (latchCommand d code s).arg = Memory.ofBytes 0 (s.pins.atnArgs.take s.cfg.argMax) := rfl
@[simp] theorem latchCommand_xlat (d : Dir) (code : Byte) (s : State) : (latchCommand d code s).xlat = s.xlat := rfl
@[simp] theorem latchCommand_lglyph (d : Dir) (code : Byte) (s : State) : (latchCommand d code s).lglyph = s.lglyph := rfl
@[simp] theorem latchCommand_pglyph (d : Dir) (code : Byte) (s : State) : (latchCommand d code s).pglyph = s.pglyph := rfl
@[simp] theorem latchCommand_svcBusy (d : Dir) (code : Byte) (s : State) : (latchCommand d code s).svcBusy = s.svcBusy := rfl
@[simp] theorem latchCommand_svcDone (d : Dir) (code : Byte) (s : State) : (latchCommand d code s).svcDone = s.svcDone := rfl
@[simp] theorem latchCommand_cfg (d : Dir) (code : Byte) (s : State) : (latchCommand d code s).cfg = s.cfg := rfl
@[simp] theorem latchCommand_stage (d : Dir) (code : Byte) (s : State) : (latchCommand d code s).stage = s.stage := rfl
@[simp] theorem latchCommand_pollR (d : Dir) (code : Byte) (s : State) : (latchCommand d code s).pollR = s.pollR := rfl
@[simp] theorem latchCommand_prIdx (d : Dir) (code : Byte) (s : State) : (latchCommand d code s).prIdx = s.prIdx := rfl
@[simp] theorem latchCommand_pins (d : Dir) (code : Byte) (s : State) : (latchCommand d code s).pins = s.pins := rfl
@[simp] theorem latchCommand_tape (d : Dir) (code : Byte) (s : State) : (latchCommand d code s).tape = s.tape := rfl
@[simp] theorem latchCommand_trace (d : Dir) (code : Byte) (s : State) : (latchCommand d code s).trace = s.trace := rfl

/-! ### latchError -/

@[simp] theorem latchError_phase (res : BitVec 3) (code : Byte) (s : State) : (latchError res code s).phase = s.phase := rfl
@[simp] theorem latchError_openState (res : BitVec 3) (code : Byte) (s : State) : (latchError res code s).openState = s.openState := rfl
@[simp] theorem latchError_font (res : BitVec 3) (code : Byte) (s : State) : (latchError res code s).font = s.font := rfl
@[simp] theorem latchError_pendingErr (res : BitVec 3) (code : Byte) (s : State) : (latchError res code s).pendingErr = s.pendingErr := rfl
@[simp] theorem latchError_cmdRes (res : BitVec 3) (code : Byte) (s : State) : (latchError res code s).cmdRes = res := rfl
@[simp] theorem latchError_cmdCode (res : BitVec 3) (code : Byte) (s : State) : (latchError res code s).cmdCode = code := rfl
@[simp] theorem latchError_cmdArgLen (res : BitVec 3) (code : Byte) (s : State) : (latchError res code s).cmdArgLen = argLenIn s := rfl
@[simp] theorem latchError_outcome (res : BitVec 3) (code : Byte) (s : State) : (latchError res code s).outcome = s.outcome := rfl
@[simp] theorem latchError_lineLen (res : BitVec 3) (code : Byte) (s : State) : (latchError res code s).lineLen = s.lineLen := rfl
@[simp] theorem latchError_txIdx (res : BitVec 3) (code : Byte) (s : State) : (latchError res code s).txIdx = s.txIdx := rfl
@[simp] theorem latchError_rxByte (res : BitVec 3) (code : Byte) (s : State) : (latchError res code s).rxByte = s.rxByte := rfl
@[simp] theorem latchError_rxEod (res : BitVec 3) (code : Byte) (s : State) : (latchError res code s).rxEod = s.rxEod := rfl
@[simp] theorem latchError_rxErr (res : BitVec 3) (code : Byte) (s : State) : (latchError res code s).rxErr = s.rxErr := rfl
@[simp] theorem latchError_row (res : BitVec 3) (code : Byte) (s : State) : (latchError res code s).row = s.row := rfl
@[simp] theorem latchError_idx (res : BitVec 3) (code : Byte) (s : State) : (latchError res code s).idx = s.idx := rfl
@[simp] theorem latchError_eol (res : BitVec 3) (code : Byte) (s : State) : (latchError res code s).eol = s.eol := rfl
@[simp] theorem latchError_rvs (res : BitVec 3) (code : Byte) (s : State) : (latchError res code s).rvs = s.rvs := rfl
@[simp] theorem latchError_skip (res : BitVec 3) (code : Byte) (s : State) : (latchError res code s).skip = s.skip := rfl
@[simp] theorem latchError_crit (res : BitVec 3) (code : Byte) (s : State) : (latchError res code s).crit = false := rfl
@[simp] theorem latchError_line (res : BitVec 3) (code : Byte) (s : State) : (latchError res code s).line = s.line := rfl
@[simp] theorem latchError_bmp (res : BitVec 3) (code : Byte) (s : State) : (latchError res code s).bmp = s.bmp := rfl
@[simp] theorem latchError_arg (res : BitVec 3) (code : Byte) (s : State) : (latchError res code s).arg = s.arg := rfl
@[simp] theorem latchError_xlat (res : BitVec 3) (code : Byte) (s : State) : (latchError res code s).xlat = s.xlat := rfl
@[simp] theorem latchError_lglyph (res : BitVec 3) (code : Byte) (s : State) : (latchError res code s).lglyph = s.lglyph := rfl
@[simp] theorem latchError_pglyph (res : BitVec 3) (code : Byte) (s : State) : (latchError res code s).pglyph = s.pglyph := rfl
@[simp] theorem latchError_svcBusy (res : BitVec 3) (code : Byte) (s : State) : (latchError res code s).svcBusy = s.svcBusy := rfl
@[simp] theorem latchError_svcDone (res : BitVec 3) (code : Byte) (s : State) : (latchError res code s).svcDone = s.svcDone := rfl
@[simp] theorem latchError_cfg (res : BitVec 3) (code : Byte) (s : State) : (latchError res code s).cfg = s.cfg := rfl
@[simp] theorem latchError_stage (res : BitVec 3) (code : Byte) (s : State) : (latchError res code s).stage = s.stage := rfl
@[simp] theorem latchError_pollR (res : BitVec 3) (code : Byte) (s : State) : (latchError res code s).pollR = s.pollR := rfl
@[simp] theorem latchError_prIdx (res : BitVec 3) (code : Byte) (s : State) : (latchError res code s).prIdx = s.prIdx := rfl
@[simp] theorem latchError_pins (res : BitVec 3) (code : Byte) (s : State) : (latchError res code s).pins = s.pins := rfl
@[simp] theorem latchError_tape (res : BitVec 3) (code : Byte) (s : State) : (latchError res code s).tape = s.tape := rfl
@[simp] theorem latchError_trace (res : BitVec 3) (code : Byte) (s : State) : (latchError res code s).trace = s.trace := rfl

/-! ### latchIdle -/

@[simp] theorem latchIdle_phase (s : State) : (latchIdle s).phase = s.phase := rfl
@[simp] theorem latchIdle_openState (s : State) : (latchIdle s).openState = s.openState := rfl
@[simp] theorem latchIdle_font (s : State) : (latchIdle s).font = s.font := rfl
@[simp] theorem latchIdle_pendingErr (s : State) : (latchIdle s).pendingErr = s.pendingErr := rfl
@[simp] theorem latchIdle_cmdRes (s : State) : (latchIdle s).cmdRes = 0#3 := rfl
@[simp] theorem latchIdle_cmdCode (s : State) : (latchIdle s).cmdCode = s.cmdCode := rfl
@[simp] theorem latchIdle_cmdArgLen (s : State) : (latchIdle s).cmdArgLen = s.cmdArgLen := rfl
@[simp] theorem latchIdle_outcome (s : State) : (latchIdle s).outcome = s.outcome := rfl
@[simp] theorem latchIdle_lineLen (s : State) : (latchIdle s).lineLen = s.lineLen := rfl
@[simp] theorem latchIdle_txIdx (s : State) : (latchIdle s).txIdx = s.txIdx := rfl
@[simp] theorem latchIdle_rxByte (s : State) : (latchIdle s).rxByte = s.rxByte := rfl
@[simp] theorem latchIdle_rxEod (s : State) : (latchIdle s).rxEod = s.rxEod := rfl
@[simp] theorem latchIdle_rxErr (s : State) : (latchIdle s).rxErr = s.rxErr := rfl
@[simp] theorem latchIdle_row (s : State) : (latchIdle s).row = s.row := rfl
@[simp] theorem latchIdle_idx (s : State) : (latchIdle s).idx = s.idx := rfl
@[simp] theorem latchIdle_eol (s : State) : (latchIdle s).eol = s.eol := rfl
@[simp] theorem latchIdle_rvs (s : State) : (latchIdle s).rvs = s.rvs := rfl
@[simp] theorem latchIdle_skip (s : State) : (latchIdle s).skip = s.skip := rfl
@[simp] theorem latchIdle_crit (s : State) : (latchIdle s).crit = false := rfl
@[simp] theorem latchIdle_line (s : State) : (latchIdle s).line = s.line := rfl
@[simp] theorem latchIdle_bmp (s : State) : (latchIdle s).bmp = s.bmp := rfl
@[simp] theorem latchIdle_arg (s : State) : (latchIdle s).arg = s.arg := rfl
@[simp] theorem latchIdle_xlat (s : State) : (latchIdle s).xlat = s.xlat := rfl
@[simp] theorem latchIdle_lglyph (s : State) : (latchIdle s).lglyph = s.lglyph := rfl
@[simp] theorem latchIdle_pglyph (s : State) : (latchIdle s).pglyph = s.pglyph := rfl
@[simp] theorem latchIdle_svcBusy (s : State) : (latchIdle s).svcBusy = s.svcBusy := rfl
@[simp] theorem latchIdle_svcDone (s : State) : (latchIdle s).svcDone = s.svcDone := rfl
@[simp] theorem latchIdle_cfg (s : State) : (latchIdle s).cfg = s.cfg := rfl
@[simp] theorem latchIdle_stage (s : State) : (latchIdle s).stage = s.stage := rfl
@[simp] theorem latchIdle_pollR (s : State) : (latchIdle s).pollR = s.pollR := rfl
@[simp] theorem latchIdle_prIdx (s : State) : (latchIdle s).prIdx = s.prIdx := rfl
@[simp] theorem latchIdle_pins (s : State) : (latchIdle s).pins = s.pins := rfl
@[simp] theorem latchIdle_tape (s : State) : (latchIdle s).tape = s.tape := rfl
@[simp] theorem latchIdle_trace (s : State) : (latchIdle s).trace = s.trace := rfl

/-! ### latchReceive -/

@[simp] theorem latchReceive_phase (byte : Byte) (eod err : Bool) (s : State) : (latchReceive byte eod err s).phase = s.phase := rfl
@[simp] theorem latchReceive_openState (byte : Byte) (eod err : Bool) (s : State) : (latchReceive byte eod err s).openState = s.openState := rfl
@[simp] theorem latchReceive_font (byte : Byte) (eod err : Bool) (s : State) : (latchReceive byte eod err s).font = s.font := rfl
@[simp] theorem latchReceive_pendingErr (byte : Byte) (eod err : Bool) (s : State) : (latchReceive byte eod err s).pendingErr = s.pendingErr := rfl
@[simp] theorem latchReceive_cmdRes (byte : Byte) (eod err : Bool) (s : State) : (latchReceive byte eod err s).cmdRes = s.cmdRes := rfl
@[simp] theorem latchReceive_cmdCode (byte : Byte) (eod err : Bool) (s : State) : (latchReceive byte eod err s).cmdCode = s.cmdCode := rfl
@[simp] theorem latchReceive_cmdArgLen (byte : Byte) (eod err : Bool) (s : State) : (latchReceive byte eod err s).cmdArgLen = s.cmdArgLen := rfl
@[simp] theorem latchReceive_outcome (byte : Byte) (eod err : Bool) (s : State) : (latchReceive byte eod err s).outcome = s.outcome := rfl
@[simp] theorem latchReceive_lineLen (byte : Byte) (eod err : Bool) (s : State) : (latchReceive byte eod err s).lineLen = s.lineLen := rfl
@[simp] theorem latchReceive_txIdx (byte : Byte) (eod err : Bool) (s : State) : (latchReceive byte eod err s).txIdx = s.txIdx := rfl
@[simp] theorem latchReceive_rxByte (byte : Byte) (eod err : Bool) (s : State) : (latchReceive byte eod err s).rxByte = byte := rfl
@[simp] theorem latchReceive_rxEod (byte : Byte) (eod err : Bool) (s : State) : (latchReceive byte eod err s).rxEod = eod := rfl
@[simp] theorem latchReceive_rxErr (byte : Byte) (eod err : Bool) (s : State) : (latchReceive byte eod err s).rxErr = err := rfl
@[simp] theorem latchReceive_row (byte : Byte) (eod err : Bool) (s : State) : (latchReceive byte eod err s).row = s.row := rfl
@[simp] theorem latchReceive_idx (byte : Byte) (eod err : Bool) (s : State) : (latchReceive byte eod err s).idx = s.idx := rfl
@[simp] theorem latchReceive_eol (byte : Byte) (eod err : Bool) (s : State) : (latchReceive byte eod err s).eol = s.eol := rfl
@[simp] theorem latchReceive_rvs (byte : Byte) (eod err : Bool) (s : State) : (latchReceive byte eod err s).rvs = s.rvs := rfl
@[simp] theorem latchReceive_skip (byte : Byte) (eod err : Bool) (s : State) : (latchReceive byte eod err s).skip = s.skip := rfl
@[simp] theorem latchReceive_crit (byte : Byte) (eod err : Bool) (s : State) : (latchReceive byte eod err s).crit = false := rfl
@[simp] theorem latchReceive_line (byte : Byte) (eod err : Bool) (s : State) : (latchReceive byte eod err s).line = s.line := rfl
@[simp] theorem latchReceive_bmp (byte : Byte) (eod err : Bool) (s : State) : (latchReceive byte eod err s).bmp = s.bmp := rfl
@[simp] theorem latchReceive_arg (byte : Byte) (eod err : Bool) (s : State) : (latchReceive byte eod err s).arg = s.arg := rfl
@[simp] theorem latchReceive_xlat (byte : Byte) (eod err : Bool) (s : State) : (latchReceive byte eod err s).xlat = s.xlat := rfl
@[simp] theorem latchReceive_lglyph (byte : Byte) (eod err : Bool) (s : State) : (latchReceive byte eod err s).lglyph = s.lglyph := rfl
@[simp] theorem latchReceive_pglyph (byte : Byte) (eod err : Bool) (s : State) : (latchReceive byte eod err s).pglyph = s.pglyph := rfl
@[simp] theorem latchReceive_svcBusy (byte : Byte) (eod err : Bool) (s : State) : (latchReceive byte eod err s).svcBusy = s.svcBusy := rfl
@[simp] theorem latchReceive_svcDone (byte : Byte) (eod err : Bool) (s : State) : (latchReceive byte eod err s).svcDone = s.svcDone := rfl
@[simp] theorem latchReceive_cfg (byte : Byte) (eod err : Bool) (s : State) : (latchReceive byte eod err s).cfg = s.cfg := rfl
@[simp] theorem latchReceive_stage (byte : Byte) (eod err : Bool) (s : State) : (latchReceive byte eod err s).stage = s.stage := rfl
@[simp] theorem latchReceive_pollR (byte : Byte) (eod err : Bool) (s : State) : (latchReceive byte eod err s).pollR = s.pollR := rfl
@[simp] theorem latchReceive_prIdx (byte : Byte) (eod err : Bool) (s : State) : (latchReceive byte eod err s).prIdx = s.prIdx := rfl
@[simp] theorem latchReceive_pins (byte : Byte) (eod err : Bool) (s : State) : (latchReceive byte eod err s).pins = s.pins := rfl
@[simp] theorem latchReceive_tape (byte : Byte) (eod err : Bool) (s : State) : (latchReceive byte eod err s).tape = s.tape := rfl
@[simp] theorem latchReceive_trace (byte : Byte) (eod err : Bool) (s : State) : (latchReceive byte eod err s).trace = s.trace := rfl

/-! ### dispatchCommand -/

@[simp] theorem dispatchCommand_phase (d : Dir) (code : Byte) (p : Phase) (st : Stage) (s : State) : (dispatchCommand d code p st s).phase = p := rfl
@[simp] theorem dispatchCommand_openState (d : Dir) (code : Byte) (p : Phase) (st : Stage) (s : State) : (dispatchCommand d code p st s).openState = s.openState := rfl
@[simp] theorem dispatchCommand_font (d : Dir) (code : Byte) (p : Phase) (st : Stage) (s : State) : (dispatchCommand d code p st s).font = s.font := rfl
@[simp] theorem dispatchCommand_pendingErr (d : Dir) (code : Byte) (p : Phase) (st : Stage) (s : State) : (dispatchCommand d code p st s).pendingErr = s.pendingErr := rfl
@[simp] theorem dispatchCommand_cmdRes (d : Dir) (code : Byte) (p : Phase) (st : Stage) (s : State) : (dispatchCommand d code p st s).cmdRes = d.res := rfl
@[simp] theorem dispatchCommand_cmdCode (d : Dir) (code : Byte) (p : Phase) (st : Stage) (s : State) : (dispatchCommand d code p st s).cmdCode = code := rfl
@[simp] theorem dispatchCommand_cmdArgLen (d : Dir) (code : Byte) (p : Phase) (st : Stage) (s : State) : (dispatchCommand d code p st s).cmdArgLen = argLenIn s := rfl
@[simp] theorem dispatchCommand_outcome (d : Dir) (code : Byte) (p : Phase) (st : Stage) (s : State) : (dispatchCommand d code p st s).outcome = s.outcome := rfl
@[simp] theorem dispatchCommand_lineLen (d : Dir) (code : Byte) (p : Phase) (st : Stage) (s : State) : (dispatchCommand d code p st s).lineLen = s.lineLen := rfl
@[simp] theorem dispatchCommand_txIdx (d : Dir) (code : Byte) (p : Phase) (st : Stage) (s : State) : (dispatchCommand d code p st s).txIdx = s.txIdx := rfl
@[simp] theorem dispatchCommand_rxByte (d : Dir) (code : Byte) (p : Phase) (st : Stage) (s : State) : (dispatchCommand d code p st s).rxByte = s.rxByte := rfl
@[simp] theorem dispatchCommand_rxEod (d : Dir) (code : Byte) (p : Phase) (st : Stage) (s : State) : (dispatchCommand d code p st s).rxEod = s.rxEod := rfl
@[simp] theorem dispatchCommand_rxErr (d : Dir) (code : Byte) (p : Phase) (st : Stage) (s : State) : (dispatchCommand d code p st s).rxErr = s.rxErr := rfl
@[simp] theorem dispatchCommand_row (d : Dir) (code : Byte) (p : Phase) (st : Stage) (s : State) : (dispatchCommand d code p st s).row = s.row := rfl
@[simp] theorem dispatchCommand_idx (d : Dir) (code : Byte) (p : Phase) (st : Stage) (s : State) : (dispatchCommand d code p st s).idx = s.idx := rfl
@[simp] theorem dispatchCommand_eol (d : Dir) (code : Byte) (p : Phase) (st : Stage) (s : State) : (dispatchCommand d code p st s).eol = s.eol := rfl
@[simp] theorem dispatchCommand_rvs (d : Dir) (code : Byte) (p : Phase) (st : Stage) (s : State) : (dispatchCommand d code p st s).rvs = s.rvs := rfl
@[simp] theorem dispatchCommand_skip (d : Dir) (code : Byte) (p : Phase) (st : Stage) (s : State) : (dispatchCommand d code p st s).skip = s.skip := rfl
@[simp] theorem dispatchCommand_crit (d : Dir) (code : Byte) (p : Phase) (st : Stage) (s : State) : (dispatchCommand d code p st s).crit = false := rfl
@[simp] theorem dispatchCommand_line (d : Dir) (code : Byte) (p : Phase) (st : Stage) (s : State) : (dispatchCommand d code p st s).line = s.line := rfl
@[simp] theorem dispatchCommand_bmp (d : Dir) (code : Byte) (p : Phase) (st : Stage) (s : State) : (dispatchCommand d code p st s).bmp = s.bmp := rfl
@[simp] theorem dispatchCommand_arg (d : Dir) (code : Byte) (p : Phase) (st : Stage) (s : State) : (dispatchCommand d code p st s).arg = Memory.ofBytes 0 (s.pins.atnArgs.take s.cfg.argMax) := rfl
@[simp] theorem dispatchCommand_xlat (d : Dir) (code : Byte) (p : Phase) (st : Stage) (s : State) : (dispatchCommand d code p st s).xlat = s.xlat := rfl
@[simp] theorem dispatchCommand_lglyph (d : Dir) (code : Byte) (p : Phase) (st : Stage) (s : State) : (dispatchCommand d code p st s).lglyph = s.lglyph := rfl
@[simp] theorem dispatchCommand_pglyph (d : Dir) (code : Byte) (p : Phase) (st : Stage) (s : State) : (dispatchCommand d code p st s).pglyph = s.pglyph := rfl
@[simp] theorem dispatchCommand_svcBusy (d : Dir) (code : Byte) (p : Phase) (st : Stage) (s : State) : (dispatchCommand d code p st s).svcBusy = s.svcBusy := rfl
@[simp] theorem dispatchCommand_svcDone (d : Dir) (code : Byte) (p : Phase) (st : Stage) (s : State) : (dispatchCommand d code p st s).svcDone = s.svcDone := rfl
@[simp] theorem dispatchCommand_cfg (d : Dir) (code : Byte) (p : Phase) (st : Stage) (s : State) : (dispatchCommand d code p st s).cfg = s.cfg := rfl
@[simp] theorem dispatchCommand_stage (d : Dir) (code : Byte) (p : Phase) (st : Stage) (s : State) : (dispatchCommand d code p st s).stage = st := rfl
@[simp] theorem dispatchCommand_pollR (d : Dir) (code : Byte) (p : Phase) (st : Stage) (s : State) : (dispatchCommand d code p st s).pollR = s.pollR := rfl
@[simp] theorem dispatchCommand_prIdx (d : Dir) (code : Byte) (p : Phase) (st : Stage) (s : State) : (dispatchCommand d code p st s).prIdx = s.prIdx := rfl
@[simp] theorem dispatchCommand_pins (d : Dir) (code : Byte) (p : Phase) (st : Stage) (s : State) : (dispatchCommand d code p st s).pins = s.pins := rfl
@[simp] theorem dispatchCommand_tape (d : Dir) (code : Byte) (p : Phase) (st : Stage) (s : State) : (dispatchCommand d code p st s).tape = s.tape := rfl
@[simp] theorem dispatchCommand_trace (d : Dir) (code : Byte) (p : Phase) (st : Stage) (s : State) : (dispatchCommand d code p st s).trace = s.trace := rfl

/-! ### startRowScan -/

@[simp] theorem startRowScan_phase (s : State) : (startRowScan s).phase = s.phase := rfl
@[simp] theorem startRowScan_openState (s : State) : (startRowScan s).openState = s.openState := rfl
@[simp] theorem startRowScan_font (s : State) : (startRowScan s).font = s.font := rfl
@[simp] theorem startRowScan_pendingErr (s : State) : (startRowScan s).pendingErr = s.pendingErr := rfl
@[simp] theorem startRowScan_cmdRes (s : State) : (startRowScan s).cmdRes = s.cmdRes := rfl
@[simp] theorem startRowScan_cmdCode (s : State) : (startRowScan s).cmdCode = s.cmdCode := rfl
@[simp] theorem startRowScan_cmdArgLen (s : State) : (startRowScan s).cmdArgLen = s.cmdArgLen := rfl
@[simp] theorem startRowScan_outcome (s : State) : (startRowScan s).outcome = s.outcome := rfl
@[simp] theorem startRowScan_lineLen (s : State) : (startRowScan s).lineLen = s.lineLen := rfl
@[simp] theorem startRowScan_txIdx (s : State) : (startRowScan s).txIdx = s.txIdx := rfl
@[simp] theorem startRowScan_rxByte (s : State) : (startRowScan s).rxByte = s.rxByte := rfl
@[simp] theorem startRowScan_rxEod (s : State) : (startRowScan s).rxEod = s.rxEod := rfl
@[simp] theorem startRowScan_rxErr (s : State) : (startRowScan s).rxErr = s.rxErr := rfl
@[simp] theorem startRowScan_row (s : State) : (startRowScan s).row = s.row := rfl
@[simp] theorem startRowScan_idx (s : State) : (startRowScan s).idx = 0 := rfl
@[simp] theorem startRowScan_eol (s : State) : (startRowScan s).eol = false := rfl
@[simp] theorem startRowScan_rvs (s : State) : (startRowScan s).rvs = false := rfl
@[simp] theorem startRowScan_skip (s : State) : (startRowScan s).skip = 0 := rfl
@[simp] theorem startRowScan_crit (s : State) : (startRowScan s).crit = s.crit := rfl
@[simp] theorem startRowScan_line (s : State) : (startRowScan s).line = s.line := rfl
@[simp] theorem startRowScan_bmp (s : State) : (startRowScan s).bmp = s.bmp := rfl
@[simp] theorem startRowScan_arg (s : State) : (startRowScan s).arg = s.arg := rfl
@[simp] theorem startRowScan_xlat (s : State) : (startRowScan s).xlat = s.xlat := rfl
@[simp] theorem startRowScan_lglyph (s : State) : (startRowScan s).lglyph = s.lglyph := rfl
@[simp] theorem startRowScan_pglyph (s : State) : (startRowScan s).pglyph = s.pglyph := rfl
@[simp] theorem startRowScan_svcBusy (s : State) : (startRowScan s).svcBusy = s.svcBusy := rfl
@[simp] theorem startRowScan_svcDone (s : State) : (startRowScan s).svcDone = s.svcDone := rfl
@[simp] theorem startRowScan_cfg (s : State) : (startRowScan s).cfg = s.cfg := rfl
@[simp] theorem startRowScan_stage (s : State) : (startRowScan s).stage = .scan := rfl
@[simp] theorem startRowScan_pollR (s : State) : (startRowScan s).pollR = s.pollR := rfl
@[simp] theorem startRowScan_prIdx (s : State) : (startRowScan s).prIdx = s.prIdx := rfl
@[simp] theorem startRowScan_pins (s : State) : (startRowScan s).pins = s.pins := rfl
@[simp] theorem startRowScan_tape (s : State) : (startRowScan s).tape = s.tape := rfl
@[simp] theorem startRowScan_trace (s : State) : (startRowScan s).trace = s.trace := rfl

/-! ### countSkip -/

@[simp] theorem countSkip_phase (s : State) : (countSkip s).phase = s.phase := rfl
@[simp] theorem countSkip_openState (s : State) : (countSkip s).openState = s.openState := rfl
@[simp] theorem countSkip_font (s : State) : (countSkip s).font = s.font := rfl
@[simp] theorem countSkip_pendingErr (s : State) : (countSkip s).pendingErr = s.pendingErr := rfl
@[simp] theorem countSkip_cmdRes (s : State) : (countSkip s).cmdRes = s.cmdRes := rfl
@[simp] theorem countSkip_cmdCode (s : State) : (countSkip s).cmdCode = s.cmdCode := rfl
@[simp] theorem countSkip_cmdArgLen (s : State) : (countSkip s).cmdArgLen = s.cmdArgLen := rfl
@[simp] theorem countSkip_outcome (s : State) : (countSkip s).outcome = s.outcome := rfl
@[simp] theorem countSkip_lineLen (s : State) : (countSkip s).lineLen = s.lineLen := rfl
@[simp] theorem countSkip_txIdx (s : State) : (countSkip s).txIdx = s.txIdx := rfl
@[simp] theorem countSkip_rxByte (s : State) : (countSkip s).rxByte = s.rxByte := rfl
@[simp] theorem countSkip_rxEod (s : State) : (countSkip s).rxEod = s.rxEod := rfl
@[simp] theorem countSkip_rxErr (s : State) : (countSkip s).rxErr = s.rxErr := rfl
@[simp] theorem countSkip_row (s : State) : (countSkip s).row = s.row := rfl
@[simp] theorem countSkip_idx (s : State) : (countSkip s).idx = s.idx := rfl
@[simp] theorem countSkip_eol (s : State) : (countSkip s).eol = s.eol := rfl
@[simp] theorem countSkip_rvs (s : State) : (countSkip s).rvs = s.rvs := rfl
@[simp] theorem countSkip_skip (s : State) : (countSkip s).skip = s.skip + 1 := rfl
@[simp] theorem countSkip_crit (s : State) : (countSkip s).crit = s.crit := rfl
@[simp] theorem countSkip_line (s : State) : (countSkip s).line = s.line := rfl
@[simp] theorem countSkip_bmp (s : State) : (countSkip s).bmp = s.bmp := rfl
@[simp] theorem countSkip_arg (s : State) : (countSkip s).arg = s.arg := rfl
@[simp] theorem countSkip_xlat (s : State) : (countSkip s).xlat = s.xlat := rfl
@[simp] theorem countSkip_lglyph (s : State) : (countSkip s).lglyph = s.lglyph := rfl
@[simp] theorem countSkip_pglyph (s : State) : (countSkip s).pglyph = s.pglyph := rfl
@[simp] theorem countSkip_svcBusy (s : State) : (countSkip s).svcBusy = s.svcBusy := rfl
@[simp] theorem countSkip_svcDone (s : State) : (countSkip s).svcDone = s.svcDone := rfl
@[simp] theorem countSkip_cfg (s : State) : (countSkip s).cfg = s.cfg := rfl
@[simp] theorem countSkip_stage (s : State) : (countSkip s).stage = s.stage := rfl
@[simp] theorem countSkip_pollR (s : State) : (countSkip s).pollR = s.pollR := rfl
@[simp] theorem countSkip_prIdx (s : State) : (countSkip s).prIdx = s.prIdx := rfl
@[simp] theorem countSkip_pins (s : State) : (countSkip s).pins = s.pins := rfl
@[simp] theorem countSkip_tape (s : State) : (countSkip s).tape = s.tape := rfl
@[simp] theorem countSkip_trace (s : State) : (countSkip s).trace = s.trace := rfl

/-! ### latchEol -/

@[simp] theorem latchEol_phase (s : State) : (latchEol s).phase = s.phase := rfl
@[simp] theorem latchEol_openState (s : State) : (latchEol s).openState = s.openState := rfl
@[simp] theorem latchEol_font (s : State) : (latchEol s).font = s.font := rfl
@[simp] theorem latchEol_pendingErr (s : State) : (latchEol s).pendingErr = s.pendingErr := rfl
@[simp] theorem latchEol_cmdRes (s : State) : (latchEol s).cmdRes = s.cmdRes := rfl
@[simp] theorem latchEol_cmdCode (s : State) : (latchEol s).cmdCode = s.cmdCode := rfl
@[simp] theorem latchEol_cmdArgLen (s : State) : (latchEol s).cmdArgLen = s.cmdArgLen := rfl
@[simp] theorem latchEol_outcome (s : State) : (latchEol s).outcome = s.outcome := rfl
@[simp] theorem latchEol_lineLen (s : State) : (latchEol s).lineLen = s.lineLen := rfl
@[simp] theorem latchEol_txIdx (s : State) : (latchEol s).txIdx = s.txIdx := rfl
@[simp] theorem latchEol_rxByte (s : State) : (latchEol s).rxByte = s.rxByte := rfl
@[simp] theorem latchEol_rxEod (s : State) : (latchEol s).rxEod = s.rxEod := rfl
@[simp] theorem latchEol_rxErr (s : State) : (latchEol s).rxErr = s.rxErr := rfl
@[simp] theorem latchEol_row (s : State) : (latchEol s).row = s.row := rfl
@[simp] theorem latchEol_idx (s : State) : (latchEol s).idx = s.idx := rfl
@[simp] theorem latchEol_eol (s : State) : (latchEol s).eol = true := rfl
@[simp] theorem latchEol_rvs (s : State) : (latchEol s).rvs = s.rvs := rfl
@[simp] theorem latchEol_skip (s : State) : (latchEol s).skip = s.skip := rfl
@[simp] theorem latchEol_crit (s : State) : (latchEol s).crit = s.crit := rfl
@[simp] theorem latchEol_line (s : State) : (latchEol s).line = s.line := rfl
@[simp] theorem latchEol_bmp (s : State) : (latchEol s).bmp = s.bmp := rfl
@[simp] theorem latchEol_arg (s : State) : (latchEol s).arg = s.arg := rfl
@[simp] theorem latchEol_xlat (s : State) : (latchEol s).xlat = s.xlat := rfl
@[simp] theorem latchEol_lglyph (s : State) : (latchEol s).lglyph = s.lglyph := rfl
@[simp] theorem latchEol_pglyph (s : State) : (latchEol s).pglyph = s.pglyph := rfl
@[simp] theorem latchEol_svcBusy (s : State) : (latchEol s).svcBusy = s.svcBusy := rfl
@[simp] theorem latchEol_svcDone (s : State) : (latchEol s).svcDone = s.svcDone := rfl
@[simp] theorem latchEol_cfg (s : State) : (latchEol s).cfg = s.cfg := rfl
@[simp] theorem latchEol_stage (s : State) : (latchEol s).stage = s.stage := rfl
@[simp] theorem latchEol_pollR (s : State) : (latchEol s).pollR = s.pollR := rfl
@[simp] theorem latchEol_prIdx (s : State) : (latchEol s).prIdx = s.prIdx := rfl
@[simp] theorem latchEol_pins (s : State) : (latchEol s).pins = s.pins := rfl
@[simp] theorem latchEol_tape (s : State) : (latchEol s).tape = s.tape := rfl
@[simp] theorem latchEol_trace (s : State) : (latchEol s).trace = s.trace := rfl

/-! ### setRvs -/

@[simp] theorem setRvs_phase (v : Bool) (s : State) : (setRvs v s).phase = s.phase := rfl
@[simp] theorem setRvs_openState (v : Bool) (s : State) : (setRvs v s).openState = s.openState := rfl
@[simp] theorem setRvs_font (v : Bool) (s : State) : (setRvs v s).font = s.font := rfl
@[simp] theorem setRvs_pendingErr (v : Bool) (s : State) : (setRvs v s).pendingErr = s.pendingErr := rfl
@[simp] theorem setRvs_cmdRes (v : Bool) (s : State) : (setRvs v s).cmdRes = s.cmdRes := rfl
@[simp] theorem setRvs_cmdCode (v : Bool) (s : State) : (setRvs v s).cmdCode = s.cmdCode := rfl
@[simp] theorem setRvs_cmdArgLen (v : Bool) (s : State) : (setRvs v s).cmdArgLen = s.cmdArgLen := rfl
@[simp] theorem setRvs_outcome (v : Bool) (s : State) : (setRvs v s).outcome = s.outcome := rfl
@[simp] theorem setRvs_lineLen (v : Bool) (s : State) : (setRvs v s).lineLen = s.lineLen := rfl
@[simp] theorem setRvs_txIdx (v : Bool) (s : State) : (setRvs v s).txIdx = s.txIdx := rfl
@[simp] theorem setRvs_rxByte (v : Bool) (s : State) : (setRvs v s).rxByte = s.rxByte := rfl
@[simp] theorem setRvs_rxEod (v : Bool) (s : State) : (setRvs v s).rxEod = s.rxEod := rfl
@[simp] theorem setRvs_rxErr (v : Bool) (s : State) : (setRvs v s).rxErr = s.rxErr := rfl
@[simp] theorem setRvs_row (v : Bool) (s : State) : (setRvs v s).row = s.row := rfl
@[simp] theorem setRvs_idx (v : Bool) (s : State) : (setRvs v s).idx = s.idx := rfl
@[simp] theorem setRvs_eol (v : Bool) (s : State) : (setRvs v s).eol = s.eol := rfl
@[simp] theorem setRvs_rvs (v : Bool) (s : State) : (setRvs v s).rvs = v := rfl
@[simp] theorem setRvs_skip (v : Bool) (s : State) : (setRvs v s).skip = s.skip := rfl
@[simp] theorem setRvs_crit (v : Bool) (s : State) : (setRvs v s).crit = s.crit := rfl
@[simp] theorem setRvs_line (v : Bool) (s : State) : (setRvs v s).line = s.line := rfl
@[simp] theorem setRvs_bmp (v : Bool) (s : State) : (setRvs v s).bmp = s.bmp := rfl
@[simp] theorem setRvs_arg (v : Bool) (s : State) : (setRvs v s).arg = s.arg := rfl
@[simp] theorem setRvs_xlat (v : Bool) (s : State) : (setRvs v s).xlat = s.xlat := rfl
@[simp] theorem setRvs_lglyph (v : Bool) (s : State) : (setRvs v s).lglyph = s.lglyph := rfl
@[simp] theorem setRvs_pglyph (v : Bool) (s : State) : (setRvs v s).pglyph = s.pglyph := rfl
@[simp] theorem setRvs_svcBusy (v : Bool) (s : State) : (setRvs v s).svcBusy = s.svcBusy := rfl
@[simp] theorem setRvs_svcDone (v : Bool) (s : State) : (setRvs v s).svcDone = s.svcDone := rfl
@[simp] theorem setRvs_cfg (v : Bool) (s : State) : (setRvs v s).cfg = s.cfg := rfl
@[simp] theorem setRvs_stage (v : Bool) (s : State) : (setRvs v s).stage = s.stage := rfl
@[simp] theorem setRvs_pollR (v : Bool) (s : State) : (setRvs v s).pollR = s.pollR := rfl
@[simp] theorem setRvs_prIdx (v : Bool) (s : State) : (setRvs v s).prIdx = s.prIdx := rfl
@[simp] theorem setRvs_pins (v : Bool) (s : State) : (setRvs v s).pins = s.pins := rfl
@[simp] theorem setRvs_tape (v : Bool) (s : State) : (setRvs v s).tape = s.tape := rfl
@[simp] theorem setRvs_trace (v : Bool) (s : State) : (setRvs v s).trace = s.trace := rfl

/-! ### selectFont -/

@[simp] theorem selectFont_phase (f : Font) (s : State) : (selectFont f s).phase = s.phase := rfl
@[simp] theorem selectFont_openState (f : Font) (s : State) : (selectFont f s).openState = s.openState := rfl
@[simp] theorem selectFont_font (f : Font) (s : State) : (selectFont f s).font = f := rfl
@[simp] theorem selectFont_pendingErr (f : Font) (s : State) : (selectFont f s).pendingErr = s.pendingErr := rfl
@[simp] theorem selectFont_cmdRes (f : Font) (s : State) : (selectFont f s).cmdRes = s.cmdRes := rfl
@[simp] theorem selectFont_cmdCode (f : Font) (s : State) : (selectFont f s).cmdCode = s.cmdCode := rfl
@[simp] theorem selectFont_cmdArgLen (f : Font) (s : State) : (selectFont f s).cmdArgLen = s.cmdArgLen := rfl
@[simp] theorem selectFont_outcome (f : Font) (s : State) : (selectFont f s).outcome = s.outcome := rfl
@[simp] theorem selectFont_lineLen (f : Font) (s : State) : (selectFont f s).lineLen = s.lineLen := rfl
@[simp] theorem selectFont_txIdx (f : Font) (s : State) : (selectFont f s).txIdx = s.txIdx := rfl
@[simp] theorem selectFont_rxByte (f : Font) (s : State) : (selectFont f s).rxByte = s.rxByte := rfl
@[simp] theorem selectFont_rxEod (f : Font) (s : State) : (selectFont f s).rxEod = s.rxEod := rfl
@[simp] theorem selectFont_rxErr (f : Font) (s : State) : (selectFont f s).rxErr = s.rxErr := rfl
@[simp] theorem selectFont_row (f : Font) (s : State) : (selectFont f s).row = s.row := rfl
@[simp] theorem selectFont_idx (f : Font) (s : State) : (selectFont f s).idx = s.idx := rfl
@[simp] theorem selectFont_eol (f : Font) (s : State) : (selectFont f s).eol = s.eol := rfl
@[simp] theorem selectFont_rvs (f : Font) (s : State) : (selectFont f s).rvs = s.rvs := rfl
@[simp] theorem selectFont_skip (f : Font) (s : State) : (selectFont f s).skip = s.skip := rfl
@[simp] theorem selectFont_crit (f : Font) (s : State) : (selectFont f s).crit = s.crit := rfl
@[simp] theorem selectFont_line (f : Font) (s : State) : (selectFont f s).line = s.line := rfl
@[simp] theorem selectFont_bmp (f : Font) (s : State) : (selectFont f s).bmp = s.bmp := rfl
@[simp] theorem selectFont_arg (f : Font) (s : State) : (selectFont f s).arg = s.arg := rfl
@[simp] theorem selectFont_xlat (f : Font) (s : State) : (selectFont f s).xlat = s.xlat := rfl
@[simp] theorem selectFont_lglyph (f : Font) (s : State) : (selectFont f s).lglyph = s.lglyph := rfl
@[simp] theorem selectFont_pglyph (f : Font) (s : State) : (selectFont f s).pglyph = s.pglyph := rfl
@[simp] theorem selectFont_svcBusy (f : Font) (s : State) : (selectFont f s).svcBusy = s.svcBusy := rfl
@[simp] theorem selectFont_svcDone (f : Font) (s : State) : (selectFont f s).svcDone = s.svcDone := rfl
@[simp] theorem selectFont_cfg (f : Font) (s : State) : (selectFont f s).cfg = s.cfg := rfl
@[simp] theorem selectFont_stage (f : Font) (s : State) : (selectFont f s).stage = .openSession := rfl
@[simp] theorem selectFont_pollR (f : Font) (s : State) : (selectFont f s).pollR = s.pollR := rfl
@[simp] theorem selectFont_prIdx (f : Font) (s : State) : (selectFont f s).prIdx = s.prIdx := rfl
@[simp] theorem selectFont_pins (f : Font) (s : State) : (selectFont f s).pins = s.pins := rfl
@[simp] theorem selectFont_tape (f : Font) (s : State) : (selectFont f s).tape = s.tape := rfl
@[simp] theorem selectFont_trace (f : Font) (s : State) : (selectFont f s).trace = s.trace := rfl

/-! ### callDecodeAttention -/

@[simp] theorem callDecodeAttention_phase (s : State) : (callDecodeAttention s).phase = s.phase := rfl
@[simp] theorem callDecodeAttention_openState (s : State) : (callDecodeAttention s).openState = s.openState := rfl
@[simp] theorem callDecodeAttention_font (s : State) : (callDecodeAttention s).font = s.font := rfl
@[simp] theorem callDecodeAttention_pendingErr (s : State) : (callDecodeAttention s).pendingErr = s.pendingErr := rfl
@[simp] theorem callDecodeAttention_cmdRes (s : State) : (callDecodeAttention s).cmdRes = s.cmdRes := rfl
@[simp] theorem callDecodeAttention_cmdCode (s : State) : (callDecodeAttention s).cmdCode = s.cmdCode := rfl
@[simp] theorem callDecodeAttention_cmdArgLen (s : State) : (callDecodeAttention s).cmdArgLen = s.cmdArgLen := rfl
@[simp] theorem callDecodeAttention_outcome (s : State) : (callDecodeAttention s).outcome = s.outcome := rfl
@[simp] theorem callDecodeAttention_lineLen (s : State) : (callDecodeAttention s).lineLen = s.lineLen := rfl
@[simp] theorem callDecodeAttention_txIdx (s : State) : (callDecodeAttention s).txIdx = s.txIdx := rfl
@[simp] theorem callDecodeAttention_rxByte (s : State) : (callDecodeAttention s).rxByte = s.rxByte := rfl
@[simp] theorem callDecodeAttention_rxEod (s : State) : (callDecodeAttention s).rxEod = s.rxEod := rfl
@[simp] theorem callDecodeAttention_rxErr (s : State) : (callDecodeAttention s).rxErr = s.rxErr := rfl
@[simp] theorem callDecodeAttention_row (s : State) : (callDecodeAttention s).row = s.row := rfl
@[simp] theorem callDecodeAttention_idx (s : State) : (callDecodeAttention s).idx = s.idx := rfl
@[simp] theorem callDecodeAttention_eol (s : State) : (callDecodeAttention s).eol = s.eol := rfl
@[simp] theorem callDecodeAttention_rvs (s : State) : (callDecodeAttention s).rvs = s.rvs := rfl
@[simp] theorem callDecodeAttention_skip (s : State) : (callDecodeAttention s).skip = s.skip := rfl
@[simp] theorem callDecodeAttention_crit (s : State) : (callDecodeAttention s).crit = true := rfl
@[simp] theorem callDecodeAttention_line (s : State) : (callDecodeAttention s).line = s.line := rfl
@[simp] theorem callDecodeAttention_bmp (s : State) : (callDecodeAttention s).bmp = s.bmp := rfl
@[simp] theorem callDecodeAttention_arg (s : State) : (callDecodeAttention s).arg = s.arg := rfl
@[simp] theorem callDecodeAttention_xlat (s : State) : (callDecodeAttention s).xlat = s.xlat := rfl
@[simp] theorem callDecodeAttention_lglyph (s : State) : (callDecodeAttention s).lglyph = s.lglyph := rfl
@[simp] theorem callDecodeAttention_pglyph (s : State) : (callDecodeAttention s).pglyph = s.pglyph := rfl
@[simp] theorem callDecodeAttention_svcBusy (s : State) : (callDecodeAttention s).svcBusy = s.svcBusy := rfl
@[simp] theorem callDecodeAttention_svcDone (s : State) : (callDecodeAttention s).svcDone = s.svcDone := rfl
@[simp] theorem callDecodeAttention_cfg (s : State) : (callDecodeAttention s).cfg = s.cfg := rfl
@[simp] theorem callDecodeAttention_stage (s : State) : (callDecodeAttention s).stage = s.stage := rfl
@[simp] theorem callDecodeAttention_pollR (s : State) : (callDecodeAttention s).pollR = s.pollR := rfl
@[simp] theorem callDecodeAttention_prIdx (s : State) : (callDecodeAttention s).prIdx = s.prIdx := rfl
@[simp] theorem callDecodeAttention_pins (s : State) : (callDecodeAttention s).pins = s.pins := rfl
@[simp] theorem callDecodeAttention_tape (s : State) : (callDecodeAttention s).tape = s.tape := rfl
@[simp] theorem callDecodeAttention_trace (s : State) : (callDecodeAttention s).trace = s.trace ++ [.decodeAttention] := rfl

/-! ### callReceive -/

@[simp] theorem callReceive_phase (s : State) : (callReceive s).phase = s.phase := rfl
@[simp] theorem callReceive_openState (s : State) : (callReceive s).openState = s.openState := rfl
@[simp] theorem callReceive_font (s : State) : (callReceive s).font = s.font := rfl
@[simp] theorem callReceive_pendingErr (s : State) : (callReceive s).pendingErr = s.pendingErr := rfl
@[simp] theorem callReceive_cmdRes (s : State) : (callReceive s).cmdRes = s.cmdRes := rfl
@[simp] theorem callReceive_cmdCode (s : State) : (callReceive s).cmdCode = s.cmdCode := rfl
@[simp] theorem callReceive_cmdArgLen (s : State) : (callReceive s).cmdArgLen = s.cmdArgLen := rfl
@[simp] theorem callReceive_outcome (s : State) : (callReceive s).outcome = s.outcome := rfl
@[simp] theorem callReceive_lineLen (s : State) : (callReceive s).lineLen = s.lineLen := rfl
@[simp] theorem callReceive_txIdx (s : State) : (callReceive s).txIdx = s.txIdx := rfl
@[simp] theorem callReceive_rxByte (s : State) : (callReceive s).rxByte = s.rxByte := rfl
@[simp] theorem callReceive_rxEod (s : State) : (callReceive s).rxEod = s.rxEod := rfl
@[simp] theorem callReceive_rxErr (s : State) : (callReceive s).rxErr = s.rxErr := rfl
@[simp] theorem callReceive_row (s : State) : (callReceive s).row = s.row := rfl
@[simp] theorem callReceive_idx (s : State) : (callReceive s).idx = s.idx := rfl
@[simp] theorem callReceive_eol (s : State) : (callReceive s).eol = s.eol := rfl
@[simp] theorem callReceive_rvs (s : State) : (callReceive s).rvs = s.rvs := rfl
@[simp] theorem callReceive_skip (s : State) : (callReceive s).skip = s.skip := rfl
@[simp] theorem callReceive_crit (s : State) : (callReceive s).crit = true := rfl
@[simp] theorem callReceive_line (s : State) : (callReceive s).line = s.line := rfl
@[simp] theorem callReceive_bmp (s : State) : (callReceive s).bmp = s.bmp := rfl
@[simp] theorem callReceive_arg (s : State) : (callReceive s).arg = s.arg := rfl
@[simp] theorem callReceive_xlat (s : State) : (callReceive s).xlat = s.xlat := rfl
@[simp] theorem callReceive_lglyph (s : State) : (callReceive s).lglyph = s.lglyph := rfl
@[simp] theorem callReceive_pglyph (s : State) : (callReceive s).pglyph = s.pglyph := rfl
@[simp] theorem callReceive_svcBusy (s : State) : (callReceive s).svcBusy = s.svcBusy := rfl
@[simp] theorem callReceive_svcDone (s : State) : (callReceive s).svcDone = s.svcDone := rfl
@[simp] theorem callReceive_cfg (s : State) : (callReceive s).cfg = s.cfg := rfl
@[simp] theorem callReceive_stage (s : State) : (callReceive s).stage = .rx := rfl
@[simp] theorem callReceive_pollR (s : State) : (callReceive s).pollR = s.pollR := rfl
@[simp] theorem callReceive_prIdx (s : State) : (callReceive s).prIdx = s.prIdx := rfl
@[simp] theorem callReceive_pins (s : State) : (callReceive s).pins = s.pins := rfl
@[simp] theorem callReceive_tape (s : State) : (callReceive s).tape = s.tape := rfl
@[simp] theorem callReceive_trace (s : State) : (callReceive s).trace = s.trace ++ [.receive] := rfl

end Sys2Proof.Machine
end

