-- ==== Sys2Proof/Laws/Ops.lean ====
section
/-! SUPPORT. For each shared operation, what it can do, said once: cite these instead of unfolding the operation. -/
namespace Sys2Proof.Machine

/-! ### Reading a byte of a space -/

@[simp] theorem readByte_line (s : State) (a : Nat) : s.readByte .line a = s.line.read a := rfl
@[simp] theorem readByte_bmp (s : State) (a : Nat) : s.readByte .bmp a = s.bmp.read a := rfl
@[simp] theorem readByte_arg (s : State) (a : Nat) : s.readByte .arg a = s.arg.read a := rfl
@[simp] theorem readByte_xlat (s : State) (a : Nat) : s.readByte .xlat a = s.xlat.read a := rfl
@[simp] theorem readByte_lglyph (s : State) (a : Nat) : s.readByte .lglyph a = s.lglyph.read a := rfl
@[simp] theorem readByte_pglyph (s : State) (a : Nat) : s.readByte .pglyph a = s.pglyph.read a := rfl

/-- A read of a space that succeeds is in range and finds a written byte. -/
theorem memRead_ok {s : State} {sp : Space} {a : Nat} {b : Byte} :
    memRead s sp a = .ok b ↔ a < sp.size s.cfg ∧ s.readByte sp a = some b := by
  unfold memRead
  split
  · split <;> simp_all
  · simp_all

/-- The memories of the reset state have the canonical form. -/
theorem reset_memories_wf (sp : Space) (size : Nat) : (State.reset.mem sp).wf size = true := by cases sp <;> rfl

/-! ### Writing a byte -/

theorem writeLine_of_lt {s : State} {a : Nat} (h : a < 49) (v : Byte) (k : State → Host.Outcome State Fault Refusal) :
    writeLine s a v k = k { s with line := s.line.write a v } := by
  have : a < Space.line.size s.cfg := h
  simp only [writeLine, this, if_true]

theorem writeLine_of_ge {s : State} {a : Nat} (h : 49 ≤ a) (v : Byte) (k : State → Host.Outcome State Fault Refusal) :
    writeLine s a v k = .fault (.indexOutOfRange .line a) := by
  have : ¬ a < Space.line.size s.cfg := Nat.not_lt.2 h
  simp only [writeLine, this, if_false]

theorem writeLine_next {s t : State} {a : Nat} {v : Byte} {k : State → Host.Outcome State Fault Refusal}
    (h : writeLine s a v k = .next t) : a < 49 ∧ k { s with line := s.line.write a v } = .next t := by
  by_cases ha : a < 49
  · exact ⟨ha, writeLine_of_lt ha v k ▸ h⟩
  · rw [writeLine_of_ge (Nat.not_lt.1 ha)] at h; cases h

theorem writeBmp_of_lt {s : State} {a : Nat} (h : a < 432) (v : Byte) (k : State → Host.Outcome State Fault Refusal) :
    writeBmp s a v k = k { s with bmp := s.bmp.write a v } := by
  have : a < Space.bmp.size s.cfg := h
  simp only [writeBmp, this, if_true]

theorem writeBmp_of_ge {s : State} {a : Nat} (h : 432 ≤ a) (v : Byte) (k : State → Host.Outcome State Fault Refusal) :
    writeBmp s a v k = .fault (.indexOutOfRange .bmp a) := by
  have : ¬ a < Space.bmp.size s.cfg := Nat.not_lt.2 h
  simp only [writeBmp, this, if_false]

theorem writeBmp_next {s t : State} {a : Nat} {v : Byte} {k : State → Host.Outcome State Fault Refusal}
    (h : writeBmp s a v k = .next t) : a < 432 ∧ k { s with bmp := s.bmp.write a v } = .next t := by
  by_cases ha : a < 432
  · exact ⟨ha, writeBmp_of_lt ha v k ▸ h⟩
  · rw [writeBmp_of_ge (Nat.not_lt.1 ha)] at h; cases h

/-! ### The talk handler -/

/-- Every position below `ID_LEN` has a byte. -/
theorem idString_at {c : Config} {i : Nat} (h : i < c.idLen) : ∃ b, c.idString[i]? = some b := by
  have : i < c.idString.length := h
  exact ⟨_, List.getElem?_eq_getElem this⟩

/-- What a send call does: it records the byte at `txIdx`, or does nothing past the string. -/
theorem callSend_cases (s : State) :
    (s.cfg.idLen ≤ s.txIdx ∧ callSend s = s)
    ∨ ∃ b, s.cfg.idString[s.txIdx]? = some b ∧ s.txIdx < s.cfg.idLen ∧
        callSend s = emit (if s.txIdx + 1 = s.cfg.idLen then .sendFinal b else .send b) s := by
  unfold callSend
  split
  · rename_i h; exact .inl ⟨List.getElem?_eq_none_iff.1 h, rfl⟩
  · rename_i b h; exact .inr ⟨b, h, (List.getElem?_eq_some_iff.1 h).1, rfl⟩

/-- A send call writes the trace only. -/
theorem callSend_frame (s : State) : { callSend s with trace := s.trace } = s := by
  obtain ⟨-, h⟩ | ⟨b, -, -, h⟩ := callSend_cases s <;> simp only [h, emit]

/-- What the acceptance of a byte does. -/
theorem sendTaken_cases (s : State) :
    (s.txIdx + 1 < s.cfg.idLen ∧ sendTaken s = callSend { s with txIdx := s.txIdx + 1 })
    ∨ (s.cfg.idLen ≤ s.txIdx + 1 ∧ sendTaken s = { s with txIdx := s.txIdx + 1, stage := .complete }) := by
  by_cases h : s.txIdx + 1 < s.cfg.idLen
  · exact .inl ⟨h, by simp only [sendTaken, h, if_true]⟩
  · exact .inr ⟨Nat.not_lt.1 h, by simp only [sendTaken, h, if_false]⟩

/-! ### The listen loop -/

/-- How a turn of the listen loop ends. -/
theorem endOfTurn_cases (s : State) :
    (s.rxEod = true ∧ endOfTurn s = { s with stage := .complete }) ∨ (s.rxEod = false ∧ endOfTurn s = callReceive s) := by
  unfold endOfTurn
  cases s.rxEod <;> simp

/-- A flush that goes on: the terminator is stored, the bitmap cleared, the scan of row 0 started. -/
theorem flush_next {s t : State} (h : flush s = .next t) :
    s.lineLen < 49 ∧ t = beginRender { s with line := s.line.write s.lineLen s.cfg.codeCr } := by
  obtain ⟨hl, h⟩ := writeLine_next h
  exact ⟨hl, by simpa using h.symm⟩

theorem flush_of_lt {s : State} (h : s.lineLen < 49) :
    flush s = .next (beginRender { s with line := s.line.write s.lineLen s.cfg.codeCr }) := writeLine_of_lt h _ _

/-- An ingest of a character that goes on: the byte is stored; the 48th entry starts a flush, any other ends the turn. -/
theorem execIngChar_next {b : Byte} {s t : State} (h : execIngChar b s = .next t) : s.lineLen < 49 ∧
    ((s.lineLen = 47 ∧ flush { s with line := s.line.write s.lineLen b, lineLen := s.lineLen + 1 } = .next t)
      ∨ (s.lineLen ≠ 47 ∧ t = endOfTurn { s with line := s.line.write s.lineLen b, lineLen := s.lineLen + 1 })) := by
  obtain ⟨hl, h⟩ := writeLine_next h
  refine ⟨hl, ?_⟩
  by_cases h47 : s.lineLen = 47
  · refine .inl ⟨h47, ?_⟩
    simpa only [h47, Config.cols, if_true] using h
  · refine .inr ⟨h47, ?_⟩
    have : ¬ s.lineLen + 1 = Config.cols := fun e => h47 (by simpa [Config.cols] using e)
    simpa only [this, if_false, Host.Outcome.next.injEq, eq_comm] using h

/-! ### The render -/

/-- Where a scan goes after an entry. -/
theorem advanceScan_cases (s : State) :
    (s.idx < s.lineLen ∧ advanceScan s = { s with idx := s.idx + 1 })
    ∨ (s.lineLen ≤ s.idx ∧ s.row + 1 < 8 ∧ advanceScan s = startRowScan { s with row := s.row + 1 })
    ∨ (s.lineLen ≤ s.idx ∧ 8 ≤ s.row + 1 ∧ advanceScan s = { s with row := s.row + 1, stage := .pad }) := by
  unfold advanceScan Config.rows
  split
  · exact .inl ⟨by assumption, rfl⟩
  · split
    · exact .inr (.inl ⟨by omega, by assumption, rfl⟩)
    · exact .inr (.inr ⟨by omega, by omega, rfl⟩)

/-- The registers that say where the scan stands are all that the way on writes. -/
theorem advanceScan_frame (s : State) :
    { advanceScan s with row := s.row, idx := s.idx, eol := s.eol, rvs := s.rvs, skip := s.skip, stage := s.stage } = s := by
  obtain ⟨-, h⟩ | ⟨-, -, h⟩ | ⟨-, -, h⟩ := advanceScan_cases s <;> simp only [h, startRowScan]

@[simp] theorem advanceScan_font (s : State) : (advanceScan s).font = s.font := by
  obtain ⟨-, h⟩ | ⟨-, -, h⟩ | ⟨-, -, h⟩ := advanceScan_cases s <;> simp only [h, startRowScan]
@[simp] theorem advanceScan_line (s : State) : (advanceScan s).line = s.line := by
  obtain ⟨-, h⟩ | ⟨-, -, h⟩ | ⟨-, -, h⟩ := advanceScan_cases s <;> simp only [h, startRowScan]
@[simp] theorem advanceScan_lineLen (s : State) : (advanceScan s).lineLen = s.lineLen := by
  obtain ⟨-, h⟩ | ⟨-, -, h⟩ | ⟨-, -, h⟩ := advanceScan_cases s <;> simp only [h, startRowScan]
@[simp] theorem advanceScan_bmp (s : State) : (advanceScan s).bmp = s.bmp := by
  obtain ⟨-, h⟩ | ⟨-, -, h⟩ | ⟨-, -, h⟩ := advanceScan_cases s <;> simp only [h, startRowScan]
@[simp] theorem advanceScan_cfg (s : State) : (advanceScan s).cfg = s.cfg := by
  obtain ⟨-, h⟩ | ⟨-, -, h⟩ | ⟨-, -, h⟩ := advanceScan_cases s <;> simp only [h, startRowScan]

/-- A case code moves a legacy font and leaves the other one. -/
theorem setCase_cases (f : Font) (s : State) :
    (s.font = .pc ∧ setCase f s = s) ∨ (s.font.legacy = true ∧ setCase f s = { s with font := f }) := by
  unfold setCase
  cases s.font <;> simp [Font.legacy]

/-- A printable byte behind the latch. -/
theorem scanPrint_eol {b : Byte} {s : State} (h : s.eol = true) : scanPrint b s = .next (advanceScan s) := by
  simp only [scanPrint, h, if_true]

/-- A printable byte with a column in the bitmap. -/
theorem scanPrint_column {b : Byte} {s : State} (h : s.eol = false) (hc : s.skip ≤ s.idx)
    (ha : s.row * 48 + (s.idx - s.skip) < 432) :
    scanPrint b s = .next (advanceScan
      { s with bmp := s.bmp.write (s.row * 48 + (s.idx - s.skip)) (glyphRow s s.font s.rvs b s.row) }) := by
  have hp : printAddr s = some (s.row * 48 + (s.idx - s.skip)) := by
    simp only [printAddr, columnOf, hc, if_true, Option.map_some, bmpAddr, Config.cols]
  rw [scanPrint, if_neg (by simp [h]), hp]
  exact writeBmp_of_lt ha _ _

/-- A printable byte that goes on. -/
theorem scanPrint_next {b : Byte} {s t : State} (h : scanPrint b s = .next t) :
    (s.eol = true ∧ t = advanceScan s)
    ∨ (s.eol = false ∧ s.skip ≤ s.idx ∧ s.row * 48 + (s.idx - s.skip) < 432 ∧ t = advanceScan
        { s with bmp := s.bmp.write (s.row * 48 + (s.idx - s.skip)) (glyphRow s s.font s.rvs b s.row) }) := by
  by_cases he : s.eol = true
  · rw [scanPrint_eol he] at h
    exact .inl ⟨he, by simpa using h.symm⟩
  · have he : s.eol = false := by simpa using he
    by_cases hc : s.skip ≤ s.idx
    · by_cases ha : s.row * 48 + (s.idx - s.skip) < 432
      · rw [scanPrint_column he hc ha] at h
        exact .inr ⟨he, hc, ha, by simpa using h.symm⟩
      · have hp : printAddr s = some (s.row * 48 + (s.idx - s.skip)) := by
          simp only [printAddr, columnOf, hc, if_true, Option.map_some, bmpAddr, Config.cols]
        simp only [scanPrint, he, hp, Bool.false_eq_true, if_false] at h
        rw [writeBmp_of_ge (Nat.not_lt.1 ha)] at h
        cases h
    · have hp : printAddr s = none := by simp only [printAddr, columnOf, hc, if_false, Option.map_none]
      simp only [scanPrint, he, hp, Bool.false_eq_true, if_false] at h
      cases h

/-- The padding row and the hand-over, where they go on: the bytes handed over are the padded bitmap in index order. -/
theorem padAndPrint_next {s t : State} (h : padAndPrint s = .next t) :
    ∃ bytes, bytes.length = 432 ∧ (∀ a, a < 432 → (s.bmp.writeRun 384 s.cfg.blank 48).read a = bytes[a]?) ∧
      t = callPrintRaster bytes { s with bmp := s.bmp.writeRun 384 s.cfg.blank 48 } := by
  unfold padAndPrint at h
  simp only at h
  split at h
  · rename_i bytes hb
    obtain ⟨hl, hr⟩ := Memory.readRun_spec _ _ _ _ hb
    exact ⟨bytes, hl, fun a ha => (congrArg _ (Nat.zero_add a)).symm.trans (hr a ha), (Host.Outcome.next.inj h).symm⟩
  · cases h

/-- The padding row and the hand-over go on when every byte of the bitmap has been written. -/
theorem padAndPrint_of_full {s : State} (h : ∀ a, a < 432 → (s.bmp.read a).isSome = true) : ∃ t, padAndPrint s = .next t := by
  have hf : ∀ i, i < 432 → ((s.bmp.writeRun 384 s.cfg.blank 48).read (0 + i)).isSome = true := by
    intro i hi
    rw [Nat.zero_add, Memory.read_writeRun]
    split
    · rfl
    · exact h i hi
  obtain ⟨bs, hbs, -⟩ := Memory.readRun_ok _ _ _ hf
  exact ⟨_, by unfold padAndPrint; simp only [bmpAddr, Config.rows, Config.cols, Config.bmpSize]; rw [hbs]⟩

/-! ### The driver's contract -/

/-- An argument length keeps the contract when it is at most `ARG_MAX`. -/
theorem argLenOk_iff (s : State) (n : Nat) : argLenOk s n = true ↔ n ≤ s.cfg.argMax := by
  cases n with
  | zero => simp [argLenOk]
  | succ n => simp [argLenOk]

/-- The attention results that break the contract. -/
theorem breaksContract_iff (s : State) : breaksContract s = true ↔
    (s.pins.atnRes = 1#3 ∨ s.pins.atnRes = 2#3 ∨ s.pins.atnRes = 3#3) ∧ s.cfg.argMax < argLenIn s := by
  have h := argLenOk_iff s (argLenIn s)
  have hb : (!argLenOk s (argLenIn s)) = true ↔ s.cfg.argMax < argLenIn s := by
    rw [Bool.not_eq_true', ← Bool.not_eq_true, h, Nat.not_le]
  have hr : ∀ r : BitVec 3, (match r.toNat with
      | 1 => !argLenOk s (argLenIn s)
      | 2 => !argLenOk s (argLenIn s)
      | 3 => !argLenOk s (argLenIn s)
      | _ => false) = true ↔ (r = 1#3 ∨ r = 2#3 ∨ r = 3#3) ∧ s.cfg.argMax < argLenIn s := by
    rw [← hb]
    generalize (!argLenOk s (argLenIn s)) = x
    cases x <;> decide
  exact hr _

end Sys2Proof.Machine
end

