-- ==== Sys2Proof/Laws/PerInstr.lean ====
section
/-! SUPPORT. The family of facts stated for every instruction: its word fits its format. -/
namespace Sys2Proof.Laws.EncodeFits

/-- The word of an instruction fits the width of its format, whatever the parameters (spec/30_encoding.md R75). -/
def Statement (i : Instr) : Prop := ∀ c : Config, encode c i < 2 ^ i.format.width

/-- The bound for a service word without `R`. -/
theorem serviceWord_lt (res : BitVec 3) (code : Byte) : serviceWord false res code < 2 ^ Format.width .sw := by
  have h1 := res.isLt
  have h2 := code.isLt
  simp only [serviceWord, Bool.toNat_false, Format.width]
  omega

/-- The bound for a receive answer. -/
theorem receiveWord_lt (err eod : Bool) (byte : Byte) : receiveWord err eod byte < 2 ^ Format.width .rxa := by
  have h := byte.isLt
  cases err <;> cases eod <;> simp only [receiveWord, Bool.toNat_false, Bool.toNat_true, Format.width] <;> omega

theorem reset (unused : BitVec 11) : Statement (.reset unused) := fun _ => by
  have h := unused.isLt
  show 2048 + unused.toNat < 4096
  omega
theorem atnIdle (unused : Byte) : Statement (.atnIdle unused) := fun _ => serviceWord_lt _ _
theorem atnError (unused : Byte) : Statement (.atnError unused) := fun _ => serviceWord_lt _ _
theorem atnRsvd5 (unused : Byte) : Statement (.atnRsvd5 unused) := fun _ => serviceWord_lt _ _
theorem atnRsvd6 (unused : Byte) : Statement (.atnRsvd6 unused) := fun _ => serviceWord_lt _ _
theorem atnRsvd7 (unused : Byte) : Statement (.atnRsvd7 unused) := fun _ => serviceWord_lt _ _
theorem openT (chan : Nibble) : Statement (.openT chan) := fun _ => serviceWord_lt _ _
theorem closeT (chan : Nibble) : Statement (.closeT chan) := fun _ => serviceWord_lt _ _
theorem dataT (chan : Nibble) : Statement (.dataT chan) := fun _ => serviceWord_lt _ _
theorem listenT (dev : Nibble) : Statement (.listenT dev) := fun _ => serviceWord_lt _ _
theorem listenTHi (dev : Nibble) : Statement (.listenTHi dev) := fun _ => serviceWord_lt _ _
theorem unlistenT : Statement .unlistenT := fun _ => serviceWord_lt _ _
theorem talkT (dev : Nibble) : Statement (.talkT dev) := fun _ => serviceWord_lt _ _
theorem talkTHi (dev : Nibble) : Statement (.talkTHi dev) := fun _ => serviceWord_lt _ _
theorem untalkT : Statement .untalkT := fun _ => serviceWord_lt _ _
theorem rsvd0T (low : Nibble) : Statement (.rsvd0T low) := fun _ => serviceWord_lt _ _
theorem rsvd1T (low : Nibble) : Statement (.rsvd1T low) := fun _ => serviceWord_lt _ _
theorem rsvd7T (low : Nibble) : Statement (.rsvd7T low) := fun _ => serviceWord_lt _ _
theorem rsvd8T (low : Nibble) : Statement (.rsvd8T low) := fun _ => serviceWord_lt _ _
theorem rsvd9T (low : Nibble) : Statement (.rsvd9T low) := fun _ => serviceWord_lt _ _
theorem rsvdAT (low : Nibble) : Statement (.rsvdAT low) := fun _ => serviceWord_lt _ _
theorem rsvdBT (low : Nibble) : Statement (.rsvdBT low) := fun _ => serviceWord_lt _ _
theorem rsvdCT (low : Nibble) : Statement (.rsvdCT low) := fun _ => serviceWord_lt _ _
theorem rsvdDT (low : Nibble) : Statement (.rsvdDT low) := fun _ => serviceWord_lt _ _
theorem openL (chan : Nibble) : Statement (.openL chan) := fun _ => serviceWord_lt _ _
theorem closeL (chan : Nibble) : Statement (.closeL chan) := fun _ => serviceWord_lt _ _
theorem dataL (chan : Nibble) : Statement (.dataL chan) := fun _ => serviceWord_lt _ _
theorem listenL (dev : Nibble) : Statement (.listenL dev) := fun _ => serviceWord_lt _ _
theorem listenLHi (dev : Nibble) : Statement (.listenLHi dev) := fun _ => serviceWord_lt _ _
theorem unlistenL : Statement .unlistenL := fun _ => serviceWord_lt _ _
theorem talkL (dev : Nibble) : Statement (.talkL dev) := fun _ => serviceWord_lt _ _
theorem talkLHi (dev : Nibble) : Statement (.talkLHi dev) := fun _ => serviceWord_lt _ _
theorem untalkL : Statement .untalkL := fun _ => serviceWord_lt _ _
theorem rsvd0L (low : Nibble) : Statement (.rsvd0L low) := fun _ => serviceWord_lt _ _
theorem rsvd1L (low : Nibble) : Statement (.rsvd1L low) := fun _ => serviceWord_lt _ _
theorem rsvd7L (low : Nibble) : Statement (.rsvd7L low) := fun _ => serviceWord_lt _ _
theorem rsvd8L (low : Nibble) : Statement (.rsvd8L low) := fun _ => serviceWord_lt _ _
theorem rsvd9L (low : Nibble) : Statement (.rsvd9L low) := fun _ => serviceWord_lt _ _
theorem rsvdAL (low : Nibble) : Statement (.rsvdAL low) := fun _ => serviceWord_lt _ _
theorem rsvdBL (low : Nibble) : Statement (.rsvdBL low) := fun _ => serviceWord_lt _ _
theorem rsvdCL (low : Nibble) : Statement (.rsvdCL low) := fun _ => serviceWord_lt _ _
theorem rsvdDL (low : Nibble) : Statement (.rsvdDL low) := fun _ => serviceWord_lt _ _
theorem openC (chan : Nibble) : Statement (.openC chan) := fun _ => serviceWord_lt _ _
theorem closeC (chan : Nibble) : Statement (.closeC chan) := fun _ => serviceWord_lt _ _
theorem dataC (chan : Nibble) : Statement (.dataC chan) := fun _ => serviceWord_lt _ _
theorem listenC (dev : Nibble) : Statement (.listenC dev) := fun _ => serviceWord_lt _ _
theorem listenCHi (dev : Nibble) : Statement (.listenCHi dev) := fun _ => serviceWord_lt _ _
theorem unlistenC : Statement .unlistenC := fun _ => serviceWord_lt _ _
theorem talkC (dev : Nibble) : Statement (.talkC dev) := fun _ => serviceWord_lt _ _
theorem talkCHi (dev : Nibble) : Statement (.talkCHi dev) := fun _ => serviceWord_lt _ _
theorem untalkC : Statement .untalkC := fun _ => serviceWord_lt _ _
theorem rsvd0C (low : Nibble) : Statement (.rsvd0C low) := fun _ => serviceWord_lt _ _
theorem rsvd1C (low : Nibble) : Statement (.rsvd1C low) := fun _ => serviceWord_lt _ _
theorem rsvd7C (low : Nibble) : Statement (.rsvd7C low) := fun _ => serviceWord_lt _ _
theorem rsvd8C (low : Nibble) : Statement (.rsvd8C low) := fun _ => serviceWord_lt _ _
theorem rsvd9C (low : Nibble) : Statement (.rsvd9C low) := fun _ => serviceWord_lt _ _
theorem rsvdAC (low : Nibble) : Statement (.rsvdAC low) := fun _ => serviceWord_lt _ _
theorem rsvdBC (low : Nibble) : Statement (.rsvdBC low) := fun _ => serviceWord_lt _ _
theorem rsvdCC (low : Nibble) : Statement (.rsvdCC low) := fun _ => serviceWord_lt _ _
theorem rsvdDC (low : Nibble) : Statement (.rsvdDC low) := fun _ => serviceWord_lt _ _
theorem rxMore (byte : Byte) : Statement (.rxMore byte) := fun _ => receiveWord_lt _ _ _
theorem rxLast (byte : Byte) : Statement (.rxLast byte) := fun _ => receiveWord_lt _ _ _
theorem rxErr (eod : Bool) (byte : Byte) : Statement (.rxErr eod byte) := fun _ => receiveWord_lt _ _ _
theorem ingCr : Statement .ingCr := fun c => c.codeCr.isLt
theorem ingChar (b : Byte) : Statement (.ingChar b) := fun _ => b.isLt
theorem scanPrint20 (b : Byte) : Statement (.scanPrint20 b) := fun _ => b.isLt
theorem scanPrint40 (b : Byte) : Statement (.scanPrint40 b) := fun _ => b.isLt
theorem scanPrintA0 (b : Byte) : Statement (.scanPrintA0 b) := fun _ => b.isLt
theorem scanPrintC0 (b : Byte) : Statement (.scanPrintC0 b) := fun _ => b.isLt
theorem scanCr : Statement .scanCr := fun c => c.codeCr.isLt
theorem scanRvsOn : Statement .scanRvsOn := fun c => c.codeRvsOn.isLt
theorem scanRvsOff : Statement .scanRvsOff := fun c => c.codeRvsOff.isLt
theorem scanCaseLower : Statement .scanCaseLower := fun c => c.codeCaseLower.isLt
theorem scanCaseUpper : Statement .scanCaseUpper := fun c => c.codeCaseUpper.isLt
theorem scanCtrl00 (b : Byte) : Statement (.scanCtrl00 b) := fun _ => b.isLt
theorem scanCtrl80 (b : Byte) : Statement (.scanCtrl80 b) := fun _ => b.isLt
theorem fsUpper : Statement .fsUpper := fun _ => (by decide : (0 : Nat) < 16)
theorem fsPc : Statement .fsPc := fun _ => (by decide : (1 : Nat) < 16)
theorem fsLower : Statement .fsLower := fun _ => (by decide : (7 : Nat) < 16)
theorem fsDefault (chan : Nibble) : Statement (.fsDefault chan) := fun _ => chan.isLt
theorem hostInit (start : Bool) : Statement (.hostInit start) := fun _ => (by cases start <;> decide : hostWord true start < 4)
theorem hostServiceCycle : Statement .hostServiceCycle := fun _ => (by decide : (1 : Nat) < 4)
theorem hostNone : Statement .hostNone := fun _ => (by decide : (0 : Nat) < 4)

end Sys2Proof.Laws.EncodeFits
end

