-- ==== Sys2Proof/Laws/Step.lean ====
section
/-! SUPPORT. What a step can do, said once: sampling, the four ways a step goes on, and for each format what the decoded word does. -/
namespace Sys2Proof.Machine

/-! ### Sampling -/

theorem sample_nil {s : State} (h : s.tape = []) : sample s = { s with pins := {}, svcDone := false } := by
  simp only [sample, h]

theorem sample_cons {s : State} {p : Pins} {rest : List Pins} (h : s.tape = p :: rest) :
    sample s = { s with pins := p, tape := rest, svcDone := false } := by
  simp only [sample, h]

/-- Sampling writes the sampled ports, the tape and `svc_done_o`. -/
theorem sample_eq (s : State) : ∃ p ts, sample s = { s with pins := p, tape := ts, svcDone := false } := by
  cases h : s.tape with
  | nil => exact ⟨_, s.tape, sample_nil h⟩
  | cons p rest => exact ⟨p, rest, sample_cons h⟩

@[simp] theorem sample_phase (s : State) : (sample s).phase = s.phase := by
  obtain ⟨_, _, h⟩ := sample_eq s; rw [h]
@[simp] theorem sample_openState (s : State) : (sample s).openState = s.openState := by
  obtain ⟨_, _, h⟩ := sample_eq s; rw [h]
@[simp] theorem sample_font (s : State) : (sample s).font = s.font := by
  obtain ⟨_, _, h⟩ := sample_eq s; rw [h]
@[simp] theorem sample_pendingErr (s : State) : (sample s).pendingErr = s.pendingErr := by
  obtain ⟨_, _, h⟩ := sample_eq s; rw [h]
@[simp] theorem sample_cmdRes (s : State) : (sample s).cmdRes = s.cmdRes := by
  obtain ⟨_, _, h⟩ := sample_eq s; rw [h]
@[simp] theorem sample_cmdCode (s : State) : (sample s).cmdCode = s.cmdCode := by
  obtain ⟨_, _, h⟩ := sample_eq s; rw [h]
@[simp] theorem sample_cmdArgLen (s : State) : (sample s).cmdArgLen = s.cmdArgLen := by
  obtain ⟨_, _, h⟩ := sample_eq s; rw [h]
@[simp] theorem sample_outcome (s : State) : (sample s).outcome = s.outcome := by
  obtain ⟨_, _, h⟩ := sample_eq s; rw [h]
@[simp] theorem sample_lineLen (s : State) : (sample s).lineLen = s.lineLen := by
  obtain ⟨_, _, h⟩ := sample_eq s; rw [h]
@[simp] theorem sample_txIdx (s : State) : (sample s).txIdx = s.txIdx := by
  obtain ⟨_, _, h⟩ := sample_eq s; rw [h]
@[simp] theorem sample_rxByte (s : State) : (sample s).rxByte = s.rxByte := by
  obtain ⟨_, _, h⟩ := sample_eq s; rw [h]
@[simp] theorem sample_rxEod (s : State) : (sample s).rxEod = s.rxEod := by
  obtain ⟨_, _, h⟩ := sample_eq s; rw [h]
@[simp] theorem sample_rxErr (s : State) : (sample s).rxErr = s.rxErr := by
  obtain ⟨_, _, h⟩ := sample_eq s; rw [h]
@[simp] theorem sample_row (s : State) : (sample s).row = s.row := by
  obtain ⟨_, _, h⟩ := sample_eq s; rw [h]
@[simp] theorem sample_idx (s : State) : (sample s).idx = s.idx := by
  obtain ⟨_, _, h⟩ := sample_eq s; rw [h]
@[simp] theorem sample_eol (s : State) : (sample s).eol = s.eol := by
  obtain ⟨_, _, h⟩ := sample_eq s; rw [h]
@[simp] theorem sample_rvs (s : State) : (sample s).rvs = s.rvs := by
  obtain ⟨_, _, h⟩ := sample_eq s; rw [h]
@[simp] theorem sample_skip (s : State) : (sample s).skip = s.skip := by
  obtain ⟨_, _, h⟩ := sample_eq s; rw [h]
@[simp] theorem sample_crit (s : State) : (sample s).crit = s.crit := by
  obtain ⟨_, _, h⟩ := sample_eq s; rw [h]
@[simp] theorem sample_line (s : State) : (sample s).line = s.line := by
  obtain ⟨_, _, h⟩ := sample_eq s; rw [h]
@[simp] theorem sample_bmp (s : State) : (sample s).bmp = s.bmp := by
  obtain ⟨_, _, h⟩ := sample_eq s; rw [h]
@[simp] theorem sample_arg (s : State) : (sample s).arg = s.arg := by
  obtain ⟨_, _, h⟩ := sample_eq s; rw [h]
@[simp] theorem sample_xlat (s : State) : (sample s).xlat = s.xlat := by
  obtain ⟨_, _, h⟩ := sample_eq s; rw [h]
@[simp] theorem sample_lglyph (s : State) : (sample s).lglyph = s.lglyph := by
  obtain ⟨_, _, h⟩ := sample_eq s; rw [h]
@[simp] theorem sample_pglyph (s : State) : (sample s).pglyph = s.pglyph := by
  obtain ⟨_, _, h⟩ := sample_eq s; rw [h]
@[simp] theorem sample_svcBusy (s : State) : (sample s).svcBusy = s.svcBusy := by
  obtain ⟨_, _, h⟩ := sample_eq s; rw [h]
@[simp] theorem sample_cfg (s : State) : (sample s).cfg = s.cfg := by
  obtain ⟨_, _, h⟩ := sample_eq s; rw [h]
@[simp] theorem sample_stage (s : State) : (sample s).stage = s.stage := by
  obtain ⟨_, _, h⟩ := sample_eq s; rw [h]
@[simp] theorem sample_pollR (s : State) : (sample s).pollR = s.pollR := by
  obtain ⟨_, _, h⟩ := sample_eq s; rw [h]
@[simp] theorem sample_prIdx (s : State) : (sample s).prIdx = s.prIdx := by
  obtain ⟨_, _, h⟩ := sample_eq s; rw [h]
@[simp] theorem sample_trace (s : State) : (sample s).trace = s.trace := by
  obtain ⟨_, _, h⟩ := sample_eq s; rw [h]
@[simp] theorem sample_svcDone (s : State) : (sample s).svcDone = false := by
  obtain ⟨_, _, h⟩ := sample_eq s; rw [h]

/-! ### The step -/

theorem step_of_rst {s : State} (h : (sample s).pins.rst = true) : step s = .next (hardwareReset (sample s)) := by
  simp only [step, h, if_true]

theorem step_of_running {s : State} (h : (sample s).pins.rst = false) : step s = advance (!s.tape.isEmpty) (sample s) := by
  simp only [step, h, Bool.false_eq_true, if_false]

theorem advance_word {more : Bool} {s : State} {f : Format} {w : Nat} {i : Instr} (h : fetch s = .word f w)
    (hd : decode s.cfg f w = .ok i) : advance more s = exec i s := by
  simp only [advance, h, hd]

theorem advance_piece {more : Bool} {s : State} {o : Host.Outcome State Fault Refusal} (h : fetch s = .piece o) :
    advance more s = o := by
  simp only [advance, h]

theorem advance_waiting {more : Bool} {s : State} {call : CallName} (h : fetch s = .waiting call) :
    advance more s = if more then .next s else .fault (.stuck call) := by
  simp only [advance, h]

/-- The four ways a step goes on: the hardware reset, an instruction, a piece of a handler, a call that waits. -/
theorem step_next_cases {s t : State} (h : step s = .next t) :
    ((sample s).pins.rst = true ∧ t = hardwareReset (sample s))
    ∨ ((sample s).pins.rst = false ∧ ∃ f w i, fetch (sample s) = .word f w ∧ decode s.cfg f w = .ok i ∧
        exec i (sample s) = .next t)
    ∨ ((sample s).pins.rst = false ∧ fetch (sample s) = .piece (.next t))
    ∨ ((sample s).pins.rst = false ∧ s.tape ≠ [] ∧ t = sample s ∧ ∃ call, fetch (sample s) = .waiting call) := by
  cases hr : (sample s).pins.rst with
  | true => rw [step_of_rst hr] at h; exact .inl ⟨rfl, by simpa using h.symm⟩
  | false =>
    rw [step_of_running hr] at h
    cases hf : fetch (sample s) with
    | word f w =>
      cases hd : decode s.cfg f w with
      | ok i =>
        rw [advance_word hf (by simpa using hd)] at h
        exact .inr (.inl ⟨rfl, f, w, i, rfl, hd, h⟩)
      | error e =>
        obtain ⟨f', w'⟩ := e
        have hd' : decode (sample s).cfg f w = .error (.wordTooWide f' w') := by simpa using hd
        simp only [advance, hf, hd'] at h
        cases h
    | piece o => rw [advance_piece hf] at h; subst h; exact .inr (.inr (.inl ⟨rfl, rfl⟩))
    | waiting call =>
      rw [advance_waiting hf] at h
      split at h
      · rename_i hm
        exact .inr (.inr (.inr ⟨rfl, by simpa using hm, by simpa using h.symm, call, rfl⟩))
      · cases h

/-! ### Decoding, format by format: the word fits the format, and which decoder reads it -/

theorem decode_sw_ok {c : Config} {w : Nat} {i : Instr} : decode c .sw w = .ok i ↔ w < 4096 ∧ i = decodeServiceWord c w := by
  by_cases h : w < 4096 <;> simp [decode, Format.width, h, eq_comm]

theorem decode_rxa_ok {c : Config} {w : Nat} {i : Instr} : decode c .rxa w = .ok i ↔ w < 1024 ∧ i = decodeReceive w := by
  by_cases h : w < 1024 <;> simp [decode, Format.width, h, eq_comm]

theorem decode_dbIng_ok {c : Config} {w : Nat} {i : Instr} : decode c .dbIng w = .ok i ↔ w < 256 ∧ i = decodeIngest c (BitVec.ofNat 8 w) := by
  by_cases h : w < 256 <;> simp [decode, Format.width, h, eq_comm]

theorem decode_dbScan_ok {c : Config} {w : Nat} {i : Instr} : decode c .dbScan w = .ok i ↔ w < 256 ∧ i = decodeScan c (BitVec.ofNat 8 w) := by
  by_cases h : w < 256 <;> simp [decode, Format.width, h, eq_comm]

theorem decode_fs_ok {c : Config} {w : Nat} {i : Instr} : decode c .fs w = .ok i ↔ w < 16 ∧ i = decodeFontSelect (BitVec.ofNat 4 w) := by
  by_cases h : w < 16 <;> simp [decode, Format.width, h, eq_comm]

theorem decode_host_ok {c : Config} {w : Nat} {i : Instr} : decode c .host w = .ok i ↔ w < 4 ∧ i = decodeHost w := by
  by_cases h : w < 4 <;> simp [decode, Format.width, h, eq_comm]

/-! ### What a decoded word does, format by format -/

/-- A decoded command is dispatched to one of the handlers. -/
theorem exec_decodeCommand (c : Config) (d : Dir) (code : Byte) (s : State) :
    (∃ k p, p ≠ .idle ∧ exec (decodeCommand c d code) s = .next (dispatchCommand d k p .complete s))
    ∨ (d = .talk ∧ ∃ k, exec (decodeCommand c d code) s =
        .next (callSend { dispatchCommand .talk k .dataTalk .talk s with txIdx := 0 }))
    ∨ (d = .listen ∧ ∃ k, exec (decodeCommand c d code) s = .next (dispatchCommand .listen k .dataListen .fontSelect s)) := by
  have bus : ∀ i v low, exec i s = .next (busLevel d v low s) →
      ∃ k p, p ≠ .idle ∧ exec i s = .next (dispatchCommand d k p .complete s) :=
    fun i v low h => ⟨_, .busLevel, by decide, h⟩
  have rsvd : ∀ k low, ∃ v, exec (rsvdRow d k low) s = .next (busLevel d v low s) := by
    intro k low
    cases d
    all_goals (unfold rsvdRow; simp only; first | unfold rsvdRowT | unfold rsvdRowL | unfold rsvdRowC)
    all_goals (split <;> exact ⟨_, rfl⟩)
  unfold decodeCommand
  simp only
  split
  · cases d <;> exact .inl ⟨_, .open, by decide, rfl⟩
  split
  · cases d <;> exact .inl ⟨_, .close, by decide, rfl⟩
  split
  · cases d
    · refine .inr (.inl ⟨rfl, commandCode s.cfg.verbData (chanOf code), ?_⟩)
      simp only [dataRow, exec, execDataT, openHandler, ite_self]
    · exact .inr (.inr ⟨rfl, _, rfl⟩)
    · exact .inl ⟨_, .open, by decide, rfl⟩
  split
  · exact .inl (bus _ s.cfg.verbListenLo (chanOf code) (by cases d <;> rfl))
  split
  · split
    · exact .inl (bus _ s.cfg.verbListenHi 0xF#4 (by cases d <;> rfl))
    · exact .inl (bus _ s.cfg.verbListenHi (chanOf code) (by cases d <;> rfl))
  split
  · exact .inl (bus _ s.cfg.verbTalkLo (chanOf code) (by cases d <;> rfl))
  split
  · split
    · exact .inl (bus _ s.cfg.verbTalkHi 0xF#4 (by cases d <;> rfl))
    · exact .inl (bus _ s.cfg.verbTalkHi (chanOf code) (by cases d <;> rfl))
  · obtain ⟨v, hv⟩ := rsvd (c.unassignedRank (verbOf code)) (chanOf code)
    exact .inl (bus _ v (chanOf code) hv)

/-- What a service word does; a reset comes of bit `R`, a decode error of a result above 3. -/
theorem exec_decodeServiceWord (c : Config) (w : Nat) (s : State) :
    (2048 ≤ w ∧ exec (decodeServiceWord c w) s = .next (takeException .busResetSignaled s))
    ∨ exec (decodeServiceWord c w) s = .next (returnCycle .idle (latchIdle s))
    ∨ (w < 2048 ∧ 4 ≤ w / 256 ∧ ∃ res code, exec (decodeServiceWord c w) s = .next (decodeFailed res code s))
    ∨ (∃ d k p, p ≠ .idle ∧ exec (decodeServiceWord c w) s = .next (dispatchCommand d k p .complete s))
    ∨ (∃ k, exec (decodeServiceWord c w) s = .next (callSend { dispatchCommand .talk k .dataTalk .talk s with txIdx := 0 }))
    ∨ (∃ k, exec (decodeServiceWord c w) s = .next (dispatchCommand .listen k .dataListen .fontSelect s)) := by
  have command : ∀ d code,
      (∃ d' k p, p ≠ .idle ∧ exec (decodeCommand c d code) s = .next (dispatchCommand d' k p .complete s))
      ∨ (∃ k, exec (decodeCommand c d code) s = .next (callSend { dispatchCommand .talk k .dataTalk .talk s with txIdx := 0 }))
      ∨ (∃ k, exec (decodeCommand c d code) s = .next (dispatchCommand .listen k .dataListen .fontSelect s)) := by
    intro d code
    obtain ⟨k, p, hp, e⟩ | ⟨-, k, e⟩ | ⟨-, k, e⟩ := exec_decodeCommand c d code s
    · exact .inl ⟨d, k, p, hp, e⟩
    · exact .inr (.inl ⟨k, e⟩)
    · exact .inr (.inr ⟨k, e⟩)
  unfold decodeServiceWord
  simp only
  split
  · exact .inl ⟨by assumption, rfl⟩
  split
  · exact .inr (.inl rfl)
  · exact .inr (.inr (.inr (command _ _)))
  · exact .inr (.inr (.inr (command _ _)))
  · exact .inr (.inr (.inr (command _ _)))
  · exact .inr (.inr (.inl ⟨by omega, by omega, _, _, rfl⟩))
  · exact .inr (.inr (.inl ⟨by omega, by omega, _, _, rfl⟩))
  · exact .inr (.inr (.inl ⟨by omega, by omega, _, _, rfl⟩))
  · rename_i h0 h1 h2 h3 h4 h5 h6
    simp only [imp_false] at h0 h1 h2 h3
    exact .inr (.inr (.inl ⟨by omega, by omega, _, _, rfl⟩))

/-- What a host request does; a reset comes of the bit of `init_i`. -/
theorem exec_decodeHost (w : Nat) (s : State) :
    (2 ≤ w ∧ exec (decodeHost w) s = .next (doReset s))
    ∨ exec (decodeHost w) s = execHostServiceCycle s
    ∨ exec (decodeHost w) s = .next s := by
  unfold decodeHost
  split
  · exact .inl ⟨by assumption, rfl⟩
  · split
    · exact .inr (.inl rfl)
    · exact .inr (.inr rfl)

/-- What the start of a service cycle does. -/
theorem execHostServiceCycle_next {s t : State} (h : execHostServiceCycle s = .next t) :
    ∃ tr, t = { s with
      svcBusy := true, stage := .sw, pollR := pollReset s, crit := (if pollReset s then s.crit else true), trace := tr } ∧
      ∃ es, tr = s.trace ++ es ∧ es.length ≤ 2 ∧ ∀ e ∈ es, e = .detectReset ∨ e = .decodeAttention := by
  unfold execHostServiceCycle at h
  simp only [Host.Outcome.next.injEq] at h
  subst h
  by_cases hp : pollReset s = true <;> by_cases hl : s.cfg.hasResetLine = true <;>
    simp only [hp, hl, if_true, if_false, Bool.false_eq_true, callDecodeAttention, emit, List.append_assoc] <;>
    first
      | exact ⟨_, rfl, _, rfl, by simp, by simp⟩
      | exact ⟨s.trace, rfl, [], by simp, by simp, by simp⟩

/-- What a receive answer does. -/
theorem exec_decodeReceive (w : Nat) (s : State) :
    (∃ b eod, exec (decodeReceive w) s = .next { latchReceive b eod false s with stage := .ingest })
    ∨ ∃ b eod, exec (decodeReceive w) s = .next { latchReceive b eod true s with stage := .complete } := by
  unfold decodeReceive
  simp only
  split
  · exact .inr ⟨_, _, rfl⟩
  · split <;> exact .inl ⟨_, _, rfl⟩

/-- What the ingest class of a byte does. -/
theorem exec_decodeIngest (c : Config) (b : Byte) (s : State) :
    (b = c.codeCr ∧ exec (decodeIngest c b) s = flush s) ∨ (b ≠ c.codeCr ∧ exec (decodeIngest c b) s = execIngChar b s) := by
  unfold decodeIngest
  split
  · exact .inl ⟨by assumption, rfl⟩
  · exact .inr ⟨by assumption, rfl⟩

/-- What the scan class of a byte does. -/
theorem exec_decodeScan (c : Config) (b : Byte) (s : State) :
    (c.printable b = true ∧ exec (decodeScan c b) s = scanPrint b s)
    ∨ (c.printable b = false ∧
      ((b = c.codeCr ∧ exec (decodeScan c b) s = .next (advanceScan (latchEol (countSkip s))))
      ∨ (b = c.codeRvsOn ∧ exec (decodeScan c b) s = .next (advanceScan (setRvs true (countSkip s))))
      ∨ (b = c.codeRvsOff ∧ exec (decodeScan c b) s = .next (advanceScan (setRvs false (countSkip s))))
      ∨ (b = c.codeCaseLower ∧ exec (decodeScan c b) s = .next (advanceScan (setCase .c64Lower (countSkip s))))
      ∨ (b = c.codeCaseUpper ∧ exec (decodeScan c b) s = .next (advanceScan (setCase .c64Upper (countSkip s))))
      ∨ (b ∉ c.controlCodes ∧ exec (decodeScan c b) s = .next (advanceScan (countSkip s))))) := by
  by_cases hp : c.printable b = true
  · refine .inl ⟨hp, ?_⟩
    have e : decodeScan c b = printRowOf b := by simp only [decodeScan, hp, if_true]
    rw [e]; unfold printRowOf
    split
    · rfl
    · split
      · rfl
      · split <;> rfl
  have hp : c.printable b = false := by simpa using hp
  refine .inr ⟨hp, ?_⟩
  by_cases h1 : b = c.codeCr
  · have e : decodeScan c b = .scanCr := by simp [decodeScan, hp, ← h1]
    exact .inl ⟨h1, by rw [e]; rfl⟩
  by_cases h2 : b = c.codeRvsOn
  · have e : decodeScan c b = .scanRvsOn := by simp [decodeScan, hp, h1, ← h2]
    exact .inr (.inl ⟨h2, by rw [e]; rfl⟩)
  by_cases h3 : b = c.codeRvsOff
  · have e : decodeScan c b = .scanRvsOff := by simp [decodeScan, hp, h1, h2, ← h3]
    exact .inr (.inr (.inl ⟨h3, by rw [e]; rfl⟩))
  by_cases h4 : b = c.codeCaseLower
  · have e : decodeScan c b = .scanCaseLower := by simp [decodeScan, hp, h1, h2, h3, ← h4]
    exact .inr (.inr (.inr (.inl ⟨h4, by rw [e]; rfl⟩)))
  by_cases h5 : b = c.codeCaseUpper
  · have e : decodeScan c b = .scanCaseUpper := by simp [decodeScan, hp, h1, h2, h3, h4, ← h5]
    exact .inr (.inr (.inr (.inr (.inl ⟨h5, by rw [e]; rfl⟩))))
  · refine .inr (.inr (.inr (.inr (.inr ⟨by simp [Config.controlCodes, h1, h2, h3, h4, h5], ?_⟩))))
    have e : decodeScan c b = if b.toNat < 0x80 then .scanCtrl00 b else .scanCtrl80 b := by
      simp [decodeScan, hp, h1, h2, h3, h4, h5]
    rw [e]
    split <;> rfl

/-- What the font selection of a channel does. -/
theorem exec_decodeFontSelect (ch : Nibble) (s : State) : ∃ f, exec (decodeFontSelect ch) s = .next (selectFont f s) := by
  unfold decodeFontSelect
  split
  · exact ⟨_, rfl⟩
  · split
    · exact ⟨_, rfl⟩
    · split <;> exact ⟨_, rfl⟩

end Sys2Proof.Machine
end

