-- ==== Sys2Proof/Tests/Slice0.lean ====
section
/-! SUPPORT. The model's own tests: words written out from the encodings of spec/30_encoding.md and spec/opcode_table.json, one step of
each instruction on a small state with the expected values of spec/95_test_vectors.md (vectors V-…), and for every statement with
hypotheses a state that meets them. -/
namespace Sys2Proof.Tests
open Sys2Proof.Machine

/-! ### Fixtures (spec/95_test_vectors.md section 0) -/

/-- The parameters of the vectors. -/
def fixtureConfig : Config where
  idHead := 0x49#8
  idTail := [0x44#8]
  errDefault := 0xEE#8
  argMax := 16
  hasResetLine := true

/-- A state between cycles, with the cells of the fixture tables that the tests read. -/
def fixture : State :=
  { State.reset with
    cfg := fixtureConfig
    pendingErr := 0xEE#8
    xlat := [(0x20, 0x60#8), (0x41, 0x01#8), (0xA0, 0xE0#8), (0xC1, 0x81#8), (0xFF, 0xBF#8)]
    lglyph := [(8, 0x01#8), (15, 0x71#8), (768, 0x60#8), (1032, 0x81#8), (1528, 0xBF#8), (1792, 0xE0#8), (2056, 0x04#8),
      (3083, 0xB4#8), (4104, 0x07#8)]
    pglyph := [(520, 0xBE#8), (527, 0xC5#8), (2047, 0x07#8)] }

/-- The fixture inside a listen session of channel 0. -/
def listening (st : Stage) : State :=
  { fixture with stage := st, phase := .dataListen, cmdRes := 2#3, cmdCode := 0x60#8, svcBusy := true }

/-- The fixture at the scan of a one-entry line. -/
def scanning : State :=
  { listening .scan with line := [(0, 0x41#8), (1, 0x0D#8)], lineLen := 1, bmp := Memory.fill 432 0x00#8 }

/-- Whether an outcome is a next state with a property. -/
def nextWith (p : State → Bool) : Host.Outcome State Fault Refusal → Bool
  | .next t => p t
  | .fault _ => false
  | .refused _ => false

/-- The state of a next outcome. -/
def stateOf : Host.Outcome State Fault Refusal → State
  | .next t => t
  | .fault _ => fixture
  | .refused _ => fixture

/-! ### Decoding: every row's word, written out from its encoding -/

theorem test_decode_attention :
    decode fixtureConfig .sw 0b101010111100 = .ok (.reset 0b01010111100#11)
    ∧ decode fixtureConfig .sw 0b000011111111 = .ok (.atnIdle 0xFF#8)
    ∧ decode fixtureConfig .sw 0b010001100000 = .ok (.atnError 0x60#8)
    ∧ decode fixtureConfig .sw 0b010100000001 = .ok (.atnRsvd5 0x01#8)
    ∧ decode fixtureConfig .sw 0b011000000010 = .ok (.atnRsvd6 0x02#8)
    ∧ decode fixtureConfig .sw 0b011110000000 = .ok (.atnRsvd7 0x80#8) := by decide

theorem test_decode_talk_commands :
    decode fixtureConfig .sw 0b000111110101 = .ok (.openT 0b0101#4)
    ∧ decode fixtureConfig .sw 0b000111101010 = .ok (.closeT 0b1010#4)
    ∧ decode fixtureConfig .sw 0b000101101111 = .ok (.dataT 0b1111#4)
    ∧ decode fixtureConfig .sw 0b000100100100 = .ok (.listenT 0b0100#4)
    ∧ decode fixtureConfig .sw 0b000100111110 = .ok (.listenTHi 0b1110#4)
    ∧ decode fixtureConfig .sw 0b000100111111 = .ok .unlistenT
    ∧ decode fixtureConfig .sw 0b000101000001 = .ok (.talkT 0b0001#4)
    ∧ decode fixtureConfig .sw 0b000101010111 = .ok (.talkTHi 0b0111#4)
    ∧ decode fixtureConfig .sw 0b000101011111 = .ok .untalkT := by decide

theorem test_decode_talk_unassigned :
    decode fixtureConfig .sw 0b000100000011 = .ok (.rsvd0T 0b0011#4)
    ∧ decode fixtureConfig .sw 0b000100011000 = .ok (.rsvd1T 0b1000#4)
    ∧ decode fixtureConfig .sw 0b000101110110 = .ok (.rsvd7T 0b0110#4)
    ∧ decode fixtureConfig .sw 0b000110001011 = .ok (.rsvd8T 0b1011#4)
    ∧ decode fixtureConfig .sw 0b000110010000 = .ok (.rsvd9T 0b0000#4)
    ∧ decode fixtureConfig .sw 0b000110100101 = .ok (.rsvdAT 0b0101#4)
    ∧ decode fixtureConfig .sw 0b000110111010 = .ok (.rsvdBT 0b1010#4)
    ∧ decode fixtureConfig .sw 0b000111001111 = .ok (.rsvdCT 0b1111#4)
    ∧ decode fixtureConfig .sw 0b000111010100 = .ok (.rsvdDT 0b0100#4) := by decide

theorem test_decode_listen_commands :
    decode fixtureConfig .sw 0b001011110101 = .ok (.openL 0b0101#4)
    ∧ decode fixtureConfig .sw 0b001011101010 = .ok (.closeL 0b1010#4)
    ∧ decode fixtureConfig .sw 0b001001101111 = .ok (.dataL 0b1111#4)
    ∧ decode fixtureConfig .sw 0b001000100100 = .ok (.listenL 0b0100#4)
    ∧ decode fixtureConfig .sw 0b001000111110 = .ok (.listenLHi 0b1110#4)
    ∧ decode fixtureConfig .sw 0b001000111111 = .ok .unlistenL
    ∧ decode fixtureConfig .sw 0b001001000001 = .ok (.talkL 0b0001#4)
    ∧ decode fixtureConfig .sw 0b001001010111 = .ok (.talkLHi 0b0111#4)
    ∧ decode fixtureConfig .sw 0b001001011111 = .ok .untalkL := by decide

theorem test_decode_listen_unassigned :
    decode fixtureConfig .sw 0b001000000011 = .ok (.rsvd0L 0b0011#4)
    ∧ decode fixtureConfig .sw 0b001000011000 = .ok (.rsvd1L 0b1000#4)
    ∧ decode fixtureConfig .sw 0b001001110110 = .ok (.rsvd7L 0b0110#4)
    ∧ decode fixtureConfig .sw 0b001010001011 = .ok (.rsvd8L 0b1011#4)
    ∧ decode fixtureConfig .sw 0b001010010000 = .ok (.rsvd9L 0b0000#4)
    ∧ decode fixtureConfig .sw 0b001010100101 = .ok (.rsvdAL 0b0101#4)
    ∧ decode fixtureConfig .sw 0b001010111010 = .ok (.rsvdBL 0b1010#4)
    ∧ decode fixtureConfig .sw 0b001011001111 = .ok (.rsvdCL 0b1111#4)
    ∧ decode fixtureConfig .sw 0b001011010100 = .ok (.rsvdDL 0b0100#4) := by decide

theorem test_decode_command_commands :
    decode fixtureConfig .sw 0b001111110101 = .ok (.openC 0b0101#4)
    ∧ decode fixtureConfig .sw 0b001111101010 = .ok (.closeC 0b1010#4)
    ∧ decode fixtureConfig .sw 0b001101101111 = .ok (.dataC 0b1111#4)
    ∧ decode fixtureConfig .sw 0b001100100100 = .ok (.listenC 0b0100#4)
    ∧ decode fixtureConfig .sw 0b001100111110 = .ok (.listenCHi 0b1110#4)
    ∧ decode fixtureConfig .sw 0b001100111111 = .ok .unlistenC
    ∧ decode fixtureConfig .sw 0b001101000001 = .ok (.talkC 0b0001#4)
    ∧ decode fixtureConfig .sw 0b001101010111 = .ok (.talkCHi 0b0111#4)
    ∧ decode fixtureConfig .sw 0b001101011111 = .ok .untalkC := by decide

theorem test_decode_command_unassigned :
    decode fixtureConfig .sw 0b001100000011 = .ok (.rsvd0C 0b0011#4)
    ∧ decode fixtureConfig .sw 0b001100011000 = .ok (.rsvd1C 0b1000#4)
    ∧ decode fixtureConfig .sw 0b001101110110 = .ok (.rsvd7C 0b0110#4)
    ∧ decode fixtureConfig .sw 0b001110001011 = .ok (.rsvd8C 0b1011#4)
    ∧ decode fixtureConfig .sw 0b001110010000 = .ok (.rsvd9C 0b0000#4)
    ∧ decode fixtureConfig .sw 0b001110100101 = .ok (.rsvdAC 0b0101#4)
    ∧ decode fixtureConfig .sw 0b001110111010 = .ok (.rsvdBC 0b1010#4)
    ∧ decode fixtureConfig .sw 0b001111001111 = .ok (.rsvdCC 0b1111#4)
    ∧ decode fixtureConfig .sw 0b001111010100 = .ok (.rsvdDC 0b0100#4) := by decide

theorem test_decode_receive :
    decode fixtureConfig .rxa 0b0001000001 = .ok (.rxMore 0x41#8)
    ∧ decode fixtureConfig .rxa 0b0100001101 = .ok (.rxLast 0x0D#8)
    ∧ decode fixtureConfig .rxa 0b1100001101 = .ok (.rxErr true 0x0D#8)
    ∧ decode fixtureConfig .rxa 0b1011111111 = .ok (.rxErr false 0xFF#8) := by decide

theorem test_decode_ingest :
    decode fixtureConfig .dbIng 0b00001101 = .ok .ingCr ∧ decode fixtureConfig .dbIng 0b00001010 = .ok (.ingChar 0x0A#8) := by
  decide

theorem test_decode_scan_printable :
    decode fixtureConfig .dbScan 0b00111111 = .ok (.scanPrint20 0x3F#8)
    ∧ decode fixtureConfig .dbScan 0b01111111 = .ok (.scanPrint40 0x7F#8)
    ∧ decode fixtureConfig .dbScan 0b10100000 = .ok (.scanPrintA0 0xA0#8)
    ∧ decode fixtureConfig .dbScan 0b11111111 = .ok (.scanPrintC0 0xFF#8) := by decide

theorem test_decode_scan_control :
    decode fixtureConfig .dbScan 0b00001101 = .ok .scanCr
    ∧ decode fixtureConfig .dbScan 0b00010010 = .ok .scanRvsOn
    ∧ decode fixtureConfig .dbScan 0b10010010 = .ok .scanRvsOff
    ∧ decode fixtureConfig .dbScan 0b00010001 = .ok .scanCaseLower
    ∧ decode fixtureConfig .dbScan 0b10010001 = .ok .scanCaseUpper
    ∧ decode fixtureConfig .dbScan 0b00011111 = .ok (.scanCtrl00 0x1F#8)
    ∧ decode fixtureConfig .dbScan 0b10000000 = .ok (.scanCtrl80 0x80#8) := by decide

theorem test_decode_font_select :
    decode fixtureConfig .fs 0b0000 = .ok .fsUpper ∧ decode fixtureConfig .fs 0b0001 = .ok .fsPc
    ∧ decode fixtureConfig .fs 0b0111 = .ok .fsLower ∧ decode fixtureConfig .fs 0b1111 = .ok (.fsDefault 15#4) := by decide

theorem test_decode_host :
    decode fixtureConfig .host 0b10 = .ok (.hostInit false) ∧ decode fixtureConfig .host 0b11 = .ok (.hostInit true)
    ∧ decode fixtureConfig .host 0b01 = .ok .hostServiceCycle ∧ decode fixtureConfig .host 0b00 = .ok .hostNone := by decide

theorem test_decode_rejects_wide_words :
    decode fixtureConfig .sw 0x1000 = .error (.wordTooWide .sw 0x1000) ∧ decode fixtureConfig .fs 16 = .error (.wordTooWide .fs 16) := by
  decide

theorem test_table_word : decodeTableWord 16 0x267 = some (.dataL 7#4) ∧ decodeTableWord 8 0x41 = some (.scanPrint40 0x41#8) := by
  decide

theorem test_fields : verbOf 0x67#8 = 6#4 ∧ chanOf 0x67#8 = 7#4 ∧ verbOf 0x3F#8 = 3#4 ∧ chanOf 0x3F#8 = 0xF#4 := by decide

/-! ### Well-formedness: one ill-formed term for each check -/

theorem test_wf_device31_is_unlisten :
    Instr.wf fixtureConfig (.listenTHi 15#4) = false ∧ Instr.wf fixtureConfig (.listenLHi 15#4) = false
    ∧ Instr.wf fixtureConfig (.listenCHi 15#4) = false ∧ Instr.wf fixtureConfig (.listenCHi 14#4) = true := by decide

theorem test_wf_device31_is_untalk :
    Instr.wf fixtureConfig (.talkTHi 15#4) = false ∧ Instr.wf fixtureConfig (.talkLHi 15#4) = false
    ∧ Instr.wf fixtureConfig (.talkCHi 15#4) = false ∧ Instr.wf fixtureConfig (.talkTHi 14#4) = true := by decide

theorem test_wf_data_bytes :
    Instr.wf fixtureConfig (.ingChar 0x0D#8) = false
    ∧ Instr.wf fixtureConfig (.scanPrint20 0x1F#8) = false ∧ Instr.wf fixtureConfig (.scanPrint20 0x40#8) = false
    ∧ Instr.wf fixtureConfig (.scanPrint40 0x3F#8) = false ∧ Instr.wf fixtureConfig (.scanPrint40 0x80#8) = false
    ∧ Instr.wf fixtureConfig (.scanPrintA0 0x9F#8) = false ∧ Instr.wf fixtureConfig (.scanPrintA0 0xC0#8) = false
    ∧ Instr.wf fixtureConfig (.scanPrintC0 0xBF#8) = false := by decide

theorem test_wf_control_bytes :
    Instr.wf fixtureConfig (.scanCtrl00 0x0D#8) = false ∧ Instr.wf fixtureConfig (.scanCtrl00 0x41#8) = false
    ∧ Instr.wf fixtureConfig (.scanCtrl00 0x80#8) = false ∧ Instr.wf fixtureConfig (.scanCtrl80 0x92#8) = false
    ∧ Instr.wf fixtureConfig (.scanCtrl80 0x07#8) = false ∧ Instr.wf fixtureConfig (.scanCtrl80 0x9F#8) = true := by decide

theorem test_wf_channels :
    Instr.wf fixtureConfig (.fsDefault 0#4) = false ∧ Instr.wf fixtureConfig (.fsDefault 1#4) = false
    ∧ Instr.wf fixtureConfig (.fsDefault 7#4) = false ∧ Instr.wf fixtureConfig (.fsDefault 2#4) = true := by decide

theorem test_config_wf : fixtureConfig.wf = true ∧ Config.wf { fixtureConfig with codeCr := 0x12#8 } = false
    ∧ Config.wf { fixtureConfig with codeCr := 0x20#8 } = false ∧ Config.wf { fixtureConfig with verbOpen := 0x6#4 } = false
    ∧ Config.wf { fixtureConfig with variantOffset := 641 } = false := by decide

/-! ### One step of each instruction -/

/-- V-SW-15: a bus reset with a half-filled line. -/
theorem test_reset : nextWith (fun t => decide (t.font = .c64Upper ∧ t.lineLen = 0 ∧ t.pendingErr = 0xEE#8 ∧ t.outcome = .reset
    ∧ t.trace = [.returned .reset]))
    (exec (.reset 0#11) { fixture with stage := .sw, pollR := true, font := .pc, lineLen := 5, pendingErr := 0x11#8 }) = true := by
  decide

/-- V-SW-2. -/
theorem test_atnIdle : nextWith (fun t => decide (t.font = .pc ∧ t.lineLen = 5 ∧ t.outcome = .idle ∧ t.crit = false ∧ t.cmdRes = 0#3))
    (exec (.atnIdle 0xFF#8) { fixture with stage := .sw, crit := true, font := .pc, lineLen := 5 }) = true := by decide

/-- V-SW-16, V-SW-4. -/
theorem test_atnError : ∀ x ∈ [(Instr.atnError 0x60#8, 4#3), (.atnRsvd5 0#8, 5#3), (.atnRsvd6 0#8, 6#3), (.atnRsvd7 0#8, 7#3)],
    nextWith (fun t => decide (t.font = .c64Upper ∧ t.lineLen = 0 ∧ t.outcome = .error ∧ t.cmdRes = x.2 ∧ t.crit = false))
      (exec x.1 { fixture with stage := .sw, crit := true, font := .c64Lower, lineLen := 10 }) = true := by decide

/-- V-SW-5, V-SW-6, V-SW-10: the open handler; the driver's argument is in `ARG`. -/
theorem test_open : ∀ x ∈ [(Instr.openC 7#4, 0xF7#8, 3#3), (.openT 0#4, 0xF0#8, 1#3), (.openL 15#4, 0xFF#8, 2#3), (.dataC 15#4, 0x6F#8, 3#3)],
    nextWith (fun t => decide (t.phase = .open ∧ t.stage = .complete ∧ t.cmdCode = x.2.1 ∧ t.cmdRes = x.2.2 ∧ t.cmdArgLen = 1
      ∧ t.arg = [(0, 0x58#8)]))
      (exec x.1 { fixture with stage := .sw, pins := { atnAck := true, atnArgLen := 1, atnArgs := [0x58#8] } }) = true := by decide

/-- V-SW-11, V-SW-17. -/
theorem test_close : ∀ x ∈ [(Instr.closeC 0#4, 0xE0#8, 3#3), (.closeL 7#4, 0xE7#8, 2#3), (.closeT 1#4, 0xE1#8, 1#3)],
    nextWith (fun t => decide (t.phase = .close ∧ t.lineLen = 3 ∧ t.cmdCode = x.2.1 ∧ t.cmdRes = x.2.2))
      (exec x.1 { fixture with stage := .sw, lineLen := 3 }) = true := by decide

/-- V-SW-12, V-SW-13. -/
theorem test_bus_level : ∀ x ∈ [(Instr.listenC 4#4, 0x24#8), (.unlistenC, 0x3F#8), (.talkC 4#4, 0x44#8), (.untalkC, 0x5F#8),
    (.listenCHi 4#4, 0x34#8), (.talkTHi 14#4, 0x5E#8), (.listenT 4#4, 0x24#8), (.listenL 4#4, 0x24#8), (.listenTHi 4#4, 0x34#8),
    (.listenLHi 4#4, 0x34#8), (.unlistenT, 0x3F#8), (.unlistenL, 0x3F#8), (.talkT 4#4, 0x44#8), (.talkL 4#4, 0x44#8),
    (.talkLHi 14#4, 0x5E#8), (.talkCHi 14#4, 0x5E#8), (.untalkT, 0x5F#8), (.untalkL, 0x5F#8)],
    nextWith (fun t => decide (t.phase = .busLevel ∧ t.cmdCode = x.2 ∧ t.font = .pc ∧ t.trace = []))
      (exec x.1 { fixture with stage := .sw, font := .pc }) = true := by decide

/-- V-SW-14, and the other unassigned verbs. -/
theorem test_unassigned : ∀ x ∈ [(Instr.rsvd7C 0#4, 0x70#8), (.rsvd0T 0#4, 0x00#8), (.rsvdDL 15#4, 0xDF#8), (.rsvd1C 15#4, 0x1F#8),
    (.rsvd0L 1#4, 0x01#8), (.rsvd0C 1#4, 0x01#8), (.rsvd1T 1#4, 0x11#8), (.rsvd1L 1#4, 0x11#8), (.rsvd7T 1#4, 0x71#8),
    (.rsvd7L 1#4, 0x71#8), (.rsvd8T 1#4, 0x81#8), (.rsvd8L 1#4, 0x81#8), (.rsvd8C 1#4, 0x81#8), (.rsvd9T 1#4, 0x91#8),
    (.rsvd9L 1#4, 0x91#8), (.rsvd9C 1#4, 0x91#8)],
    nextWith (fun t => decide (t.phase = .busLevel ∧ t.cmdCode = x.2)) (exec x.1 { fixture with stage := .sw }) = true := by decide

theorem test_unassigned_high : ∀ x ∈ [(Instr.rsvdAT 1#4, 0xA1#8), (.rsvdAL 1#4, 0xA1#8), (.rsvdAC 1#4, 0xA1#8), (.rsvdBT 1#4, 0xB1#8),
    (.rsvdBL 1#4, 0xB1#8), (.rsvdBC 1#4, 0xB1#8), (.rsvdCT 1#4, 0xC1#8), (.rsvdCL 1#4, 0xC1#8), (.rsvdCC 1#4, 0xC1#8),
    (.rsvdDT 1#4, 0xD1#8), (.rsvdDC 1#4, 0xD1#8)],
    nextWith (fun t => decide (t.phase = .busLevel ∧ t.cmdCode = x.2)) (exec x.1 { fixture with stage := .sw }) = true := by decide

/-- V-SW-7 and V-SW-18: the first byte of the identification. -/
theorem test_dataT : nextWith (fun t => decide (t.phase = .dataTalk ∧ t.stage = .talk ∧ t.trace = [.send 0x49#8]))
      (exec (.dataT 15#4) { fixture with stage := .sw }) = true
    ∧ nextWith (fun t => decide (t.trace = [.sendFinal 0x58#8]))
      (exec (.dataT 4#4) { fixture with stage := .sw, cfg := { fixtureConfig with idHead := 0x58#8, idTail := [] } }) = true := by
  decide

/-- V-SW-7: the second and last byte. -/
theorem test_send_final : nextWith (fun t => decide (t.txIdx = 1 ∧ t.trace = [.sendFinal 0x44#8]))
    (step { fixture with stage := .talk, phase := .dataTalk, tape := [{ txReady := true }] }) = true := by decide

/-- V-SW-9. -/
theorem test_dataL : nextWith (fun t => decide (t.phase = .dataListen ∧ t.stage = .fontSelect ∧ t.cmdCode = 0x67#8))
    (step { fixture with stage := .sw, tape := [attentionSample 0x267] }) = true := by decide

/-- V-FS-1. -/
theorem test_font_select : ∀ x ∈ [(Instr.fsUpper, Font.c64Upper), (.fsPc, .pc), (.fsLower, .c64Lower), (.fsDefault 15#4, .c64Upper)],
    nextWith (fun t => decide (t.font = x.2)) (exec x.1 { listening .fontSelect with font := .c64Lower }) = true := by decide

/-- The session start: the line is emptied and `receive()` is called. -/
theorem test_session_start : nextWith (fun t => decide (t.lineLen = 0 ∧ t.stage = .rx ∧ t.crit = true ∧ t.trace = [.receive]))
    (step { listening .openSession with lineLen := 9 }) = true := by decide

/-- V-RX-1, V-RX-2, V-RX-5. -/
theorem test_receive : ∀ x ∈ [(Instr.rxMore 0x41#8, Stage.ingest, false), (.rxLast 0x0D#8, .ingest, true), (.rxErr true 0x0D#8, .complete, true),
      (.rxErr false 0xFF#8, .complete, false)],
    nextWith (fun t => decide (t.stage = x.2.1 ∧ t.rxEod = x.2.2 ∧ t.lineLen = 2 ∧ t.crit = false))
      (exec x.1 { listening .rx with crit := true, lineLen := 2 }) = true := by decide

/-- V-RX-3, V-RX-1. -/
theorem test_ingChar : nextWith (fun t => decide (t.line = [(2, 0x41#8)] ∧ t.lineLen = 3 ∧ t.stage = .complete))
      (exec (.ingChar 0x41#8) { listening .ingest with lineLen := 2, rxEod := true }) = true
    ∧ nextWith (fun t => decide (t.lineLen = 3 ∧ t.stage = .rx ∧ t.crit = true ∧ t.trace = [.receive]))
      (exec (.ingChar 0x41#8) { listening .ingest with lineLen := 2 }) = true := by decide

/-- V-ING-3: the 48th entry. -/
theorem test_ingChar_forces_flush : nextWith (fun t => decide (t.line = [(47, 0x41#8), (48, 0x0D#8)] ∧ t.lineLen = 48 ∧ t.stage = .scan))
    (exec (.ingChar 0x41#8) { listening .ingest with lineLen := 47 }) = true := by decide

/-- V-ING-2: the empty line. -/
theorem test_ingCr : nextWith (fun t => decide (t.line = [(0, 0x0D#8)] ∧ t.lineLen = 0 ∧ t.stage = .scan ∧ t.row = 0 ∧ t.idx = 0))
    (exec .ingCr (listening .ingest)) = true := by decide

/-- V-GL-1 to V-GL-11. -/
theorem test_glyph_lookup :
    glyphRow fixture .c64Upper false 0x41#8 0 = 0x01#8 ∧ glyphRow fixture .c64Upper false 0x41#8 7 = 0x71#8
    ∧ glyphRow fixture .c64Upper true 0x41#8 0 = 0x81#8 ∧ glyphRow fixture .c64Lower false 0x41#8 0 = 0x04#8
    ∧ glyphRow fixture .c64Lower true 0x41#8 3 = 0xB4#8 ∧ glyphRow fixture .pc false 0x41#8 0 = 0xBE#8
    ∧ glyphRow fixture .pc true 0x41#8 7 = 0xC5#8 ∧ glyphRow fixture .c64Upper false 0x20#8 0 = 0x60#8
    ∧ glyphRow fixture .c64Upper false 0xFF#8 0 = 0xBF#8 ∧ glyphRow fixture .c64Lower true 0xC1#8 0 = 0x07#8
    ∧ glyphRow fixture .pc false 0xFF#8 7 = 0x07#8 := by decide

/-- A printable byte behind one skipped entry (V-SCAN-2, row 0: the reversed `A` at column 0; V-SCAN-8 for the other bands). -/
theorem test_scanPrint : ∀ x ∈ [(Instr.scanPrint40 0x41#8, true, 0x81#8), (.scanPrint20 0x20#8, false, 0x60#8), (.scanPrintA0 0xA0#8, false, 0xE0#8),
      (.scanPrintC0 0xFF#8, false, 0xBF#8)],
    nextWith (fun t => decide (t.bmp = [(0, x.2.2)] ∧ t.idx = 2 ∧ t.skip = 1))
      (exec x.1 { listening .scan with lineLen := 3, idx := 1, skip := 1, rvs := x.2.1 }) = true := by decide

/-- R164: behind the end-of-line latch nothing is stored. -/
theorem test_scanPrint_latched : ∀ i ∈ [Instr.scanPrint20 0x20#8, .scanPrint40 0x41#8, .scanPrintA0 0xA0#8, .scanPrintC0 0xFF#8],
    nextWith (fun t => decide (t.bmp = [] ∧ t.idx = 2)) (exec i { listening .scan with lineLen := 3, idx := 1, eol := true }) = true := by
  decide

/-- R162, R166: the terminator ends the row; the next row starts clean; after row 7 comes the padding row. -/
theorem test_scanCr : nextWith (fun t => decide (t.row = 4 ∧ t.idx = 0 ∧ t.eol = false ∧ t.skip = 0 ∧ t.rvs = false ∧ t.stage = .scan))
      (exec .scanCr { listening .scan with lineLen := 2, idx := 2, row := 3, skip := 2, rvs := true }) = true
    ∧ nextWith (fun t => decide (t.row = 8 ∧ t.eol = true ∧ t.skip = 3 ∧ t.stage = .pad))
      (exec .scanCr { listening .scan with lineLen := 2, idx := 2, row := 7, skip := 2 }) = true := by decide

/-- V-SCAN-10: the reverse codes set and clear. -/
theorem test_scanRvs : ∀ r ∈ [false, true],
    nextWith (fun t => decide (t.rvs = true ∧ t.skip = 1 ∧ t.idx = 1)) (exec .scanRvsOn { listening .scan with lineLen := 2, rvs := r }) = true
    ∧ nextWith (fun t => decide (t.rvs = false ∧ t.skip = 1 ∧ t.idx = 1)) (exec .scanRvsOff { listening .scan with lineLen := 2, rvs := r }) = true := by
  decide

/-- V-SCAN-4, V-SCAN-5, V-SCAN-7: the case codes move a legacy font, not the other one. -/
theorem test_scanCase : ∀ x ∈ [(Instr.scanCaseLower, Font.c64Upper, Font.c64Lower), (.scanCaseUpper, .c64Lower, .c64Upper),
      (.scanCaseLower, .pc, .pc), (.scanCaseUpper, .pc, .pc)],
    nextWith (fun t => decide (t.font = x.2.2 ∧ t.skip = 1)) (exec x.1 { listening .scan with lineLen := 2, font := x.2.1 }) = true := by
  decide

/-- V-SCAN-3, V-SCAN-8. -/
theorem test_scanCtrl : ∀ i ∈ [Instr.scanCtrl00 0x07#8, .scanCtrl80 0x9F#8],
    nextWith (fun t => decide (t.bmp = [] ∧ t.skip = 1 ∧ t.idx = 1 ∧ t.rvs = true ∧ t.font = .pc))
      (exec i { listening .scan with lineLen := 2, rvs := true, font := .pc }) = true := by decide

/-- R200, R204: `initialize()` wins over a simultaneous `svc_start_i`. -/
theorem test_hostInit : ∀ b ∈ [false, true], nextWith (fun t => decide (t.font = .c64Upper ∧ t.lineLen = 0 ∧ t.trace = [] ∧ t.stage = .host))
    (step { fixture with font := .pc, lineLen := 4, tape := [{ init := true, svcStart := b }] }) = true := by decide

/-- R100, R192: with the reset line quiet and with the reset line pulled. -/
theorem test_hostServiceCycle :
    nextWith (fun t => decide (t.stage = .sw ∧ t.crit = true ∧ t.pollR = false ∧ t.trace = [.detectReset, .decodeAttention]))
      (step { fixture with tape := [{ svcStart := true }] }) = true
    ∧ nextWith (fun t => decide (t.crit = false ∧ t.pollR = true ∧ t.trace = [.detectReset]))
      (step { fixture with tape := [{ svcStart := true, drvReset := true }] }) = true := by decide

/-- V-SW-20: without a reset line `detect_reset()` is never called. -/
theorem test_hostServiceCycle_without_line :
    nextWith (fun t => decide (t.crit = true ∧ t.pollR = false ∧ t.trace = [.decodeAttention]))
      (step { fixture with cfg := { fixtureConfig with hasResetLine := false }, tape := [{ svcStart := true, drvReset := true }] }) = true := by
  decide

theorem test_hostNone : exec .hostNone fixture = .next fixture := rfl

/-- R106. -/
theorem test_completion : nextWith (fun t => decide (t.phase = .idle ∧ t.outcome = .listen ∧ t.trace = [.returned .listen] ∧ t.svcDone = true))
    (step (listening .complete)) = true := by decide

/-- R175, R207: the 433rd transfer is the acknowledgement. -/
theorem test_print : nextWith (fun t => decide (t.prIdx = 432 ∧ t.stage = .print))
      (step { listening .print with prIdx := 431, lineLen := 5, tape := [{ prReady := true, prAck := true }] }) = true
    ∧ nextWith (fun t => decide (t.lineLen = 0 ∧ t.stage = .rx))
      (step { listening .print with prIdx := 432, lineLen := 5, tape := [{ prAck := true }] }) = true := by decide

/-- R30's boundary: an entry past the buffer stops by name. -/
theorem test_index_fault : exec .ingCr { listening .ingest with lineLen := 49 } = .fault (.indexOutOfRange .line 49) := rfl

/-- The port words of spec/95_test_vectors.md P2 and of spec/30_encoding.md R92. -/
theorem test_port_words : txWord false 0x49#8 = 0x049 ∧ txWord true 0x0D#8 = 0x10D ∧ rasterHeader 384 9 = 0x1809 := by decide

/-! ### Witnesses: for each statement with hypotheses, operands and a state that meet them together, clause by clause -/

theorem next_of_nextWith {p : State → Bool} {o : Host.Outcome State Fault Refusal} (h : nextWith p o = true) :
    ∃ t, o = .next t ∧ p t = true := by
  cases o with
  | next t => exact ⟨t, rfl, h⟩
  | fault f => cases h
  | refused r => cases h

/-- A step that goes on with a property of its next state, from an evaluation. -/
theorem next_of_eval {o : Host.Outcome State Fault Refusal} (p : State → Prop) (q : State → Bool) (hq : ∀ t, q t = true → p t)
    (h : nextWith q o = true) : ∃ t, o = .next t ∧ p t := by
  obtain ⟨t, e, ht⟩ := next_of_nextWith h
  exact ⟨t, e, hq t ht⟩

theorem witness_DecodeGivesBackEncodedInstruction : fixtureConfig.wf = true ∧ (Instr.scanCtrl80 0x9F#8).wf fixtureConfig = true := by
  decide

theorem witness_EncodeGivesBackDecodedWord : fixtureConfig.wf = true ∧ decode fixtureConfig .sw 0x267 = .ok (.dataL 7#4) := by decide

theorem witness_EveryWordOfAFormatDecodes : 4095 < 2 ^ Format.width .sw ∧ 2 ^ Format.width .host ≤ 4 := by decide

theorem witness_StepRunsTheDecodedInstruction : (sample (listening .fontSelect)).pins.rst = false
    ∧ fetch (sample (listening .fontSelect)) = .word .fs 0 ∧ decode (listening .fontSelect).cfg .fs 0 = .ok .fsUpper :=
  ⟨rfl, rfl, rfl⟩

theorem fixture_wf : fixtureConfig.wf = true := by decide

theorem argument_fits : 16 % 2 ^ fixtureConfig.argWidth ≤ fixtureConfig.argMax := by decide

theorem argument_too_long : fixtureConfig.argMax < 17 % 2 ^ fixtureConfig.argWidth := by decide

theorem witness_WordTakenAtEachStage :
    (∃ s : State, s.stage = .host)
    ∧ (∃ s : State, s.stage = .sw ∧ s.pollR = true)
    ∧ (∃ s : State, s.stage = .sw ∧ s.pollR = false ∧ s.pins.atnAck = true ∧ s.pins.atnRes = Dir.talk.res
      ∧ s.pins.atnArgLen % 2 ^ s.cfg.argWidth = s.cfg.argMax)
    ∧ (∀ r ∈ [0#3, 4#3, 7#3], ∃ s : State, s.stage = .sw ∧ s.pollR = false ∧ s.pins.atnAck = true
      ∧ s.cfg.argMax < s.pins.atnArgLen % 2 ^ s.cfg.argWidth ∧ s.pins.atnRes = r ∧ ∀ d : Dir, r ≠ d.res)
    ∧ (∃ s : State, s.stage = .fontSelect)
    ∧ (∃ s : State, s.stage = .rx ∧ s.pins.rxAck = true)
    ∧ (∃ s : State, s.stage = .ingest)
    ∧ ∃ s : State, s.stage = .scan ∧ s.idx < 49 ∧ s.readByte .line s.idx = some 0x0D#8 :=
  ⟨⟨fixture, rfl⟩, ⟨{ fixture with stage := .sw, pollR := true }, rfl, rfl⟩,
    ⟨{ fixture with stage := .sw, pins := { atnAck := true, atnRes := 1#3, atnArgLen := 16 } }, rfl, rfl, rfl, rfl, by decide⟩,
    fun r hr => ⟨{ fixture with stage := .sw, pins := { atnAck := true, atnRes := r, atnArgLen := 17 } }, rfl, rfl, rfl, argument_too_long, rfl,
      fun d => by revert r; cases d <;> decide⟩,
    ⟨listening .fontSelect, rfl⟩, ⟨{ listening .rx with pins := { rxAck := true } }, rfl, rfl⟩, ⟨listening .ingest, rfl⟩,
    ⟨{ listening .scan with idx := 48, line := [(48, 0x0D#8)] }, rfl, by decide, rfl⟩⟩

theorem witness_HardwareResetActsAtAnyStage : (sample { listening .rx with tape := [{ rst := true }] }).pins.rst = true := rfl

theorem witness_CallWithoutAnswerIsStuck :
    (∃ s : State, s.tape = [] ∧ s.stage = .sw ∧ s.pollR = false) ∧ (∃ s : State, s.tape = [] ∧ s.stage = .rx)
    ∧ (∃ s : State, s.tape = [] ∧ s.stage = .print)
    ∧ (∃ s : State, s.tape = [] ∧ s.stage = .talk ∧ s.txIdx + 1 < s.cfg.idLen)
    ∧ ∃ s : State, s.tape = [] ∧ s.stage = .talk ∧ s.txIdx + 1 = s.cfg.idLen :=
  ⟨⟨{ fixture with stage := .sw }, rfl, rfl, rfl⟩, ⟨listening .rx, rfl, rfl⟩, ⟨listening .print, rfl, rfl⟩,
    ⟨{ fixture with stage := .talk }, rfl, rfl, by decide⟩, ⟨{ fixture with stage := .talk, txIdx := 1 }, rfl, rfl, rfl⟩⟩

theorem witness_WaitingCallHoldsStateAndOutputs : ∃ (s : State) (p : Pins), s.tape = [p] ∧ p.rst = false ∧ s.svcDone = false
    ∧ fetch (sample s) = .waiting .receive :=
  ⟨{ listening .rx with tape := [{}] }, {}, rfl, rfl, rfl, rfl⟩

theorem witness_TooLongArgumentIsRefused : ∃ (s : State) (p : Pins), s.tape = [p] ∧ p.rst = false ∧ s.stage = .sw ∧ s.pollR = false
    ∧ p.atnAck = true ∧ p.atnRes = Dir.command.res ∧ s.cfg.argMax < p.atnArgLen % 2 ^ s.cfg.argWidth :=
  ⟨{ fixture with stage := .sw, tape := [{ atnAck := true, atnRes := 3#3, atnArgLen := 17 }] },
    { atnAck := true, atnRes := 3#3, atnArgLen := 17 }, rfl, rfl, rfl, rfl, rfl, rfl, by decide⟩

theorem witness_FourCausesRunTheResetRoutine : (sample { fixture with font := .pc, tape := [{ rst := true }] }).pins.rst = true := rfl

theorem witness_CompletionReturnsTheDirection : ∀ r ∈ [1#3, 2#3, 3#3],
    ({ listening .complete with cmdRes := r } : State).stage = .complete ∧ (sample { listening .complete with cmdRes := r }).pins.rst = false := by
  decide

theorem witness_ChannelDecidesTheFontOfASession : ∀ ch ∈ [0x60#8, 0x61#8, 0x67#8, 0x6F#8],
    ({ listening .fontSelect with cmdCode := ch } : State).stage = .fontSelect
    ∧ (sample { listening .fontSelect with cmdCode := ch }).pins.rst = false := by decide

theorem witness_SessionStartsWithAnEmptyLine :
    (listening .openSession).stage = .openSession ∧ (sample (listening .openSession)).pins.rst = false := ⟨rfl, rfl⟩

theorem witness_CharacterIsAppended : ∀ x ∈ [(0, true), (46, false), (48, true)],
    ({ listening .ingest with lineLen := x.1, rxEod := x.2 } : State).lineLen < 49
    ∧ ({ listening .ingest with lineLen := x.1, rxEod := x.2 } : State).lineLen ≠ 47
    ∧ ({ listening .ingest with lineLen := x.1, rxEod := x.2 } : State).rxEod = x.2 := by decide

theorem witness_FortyEighthEntryForcesAFlush : ({ listening .ingest with lineLen := 47 } : State).lineLen = 47 := rfl

theorem witness_CarriageReturnStartsARender : ∀ n ∈ [0, 48], ({ listening .ingest with lineLen := n } : State).lineLen < 49 := by decide

theorem witness_IndexOutsideABufferIsAFault :
    (∃ s : State, 49 ≤ s.lineLen)
    ∧ ∃ s : State, s.eol = false ∧ s.skip ≤ s.idx ∧ s.row * 48 + (s.idx - s.skip) = 432 :=
  ⟨⟨{ listening .ingest with lineLen := 49 }, by decide⟩, ⟨{ listening .scan with row := 9 }, rfl, by decide, rfl⟩⟩

theorem witness_PrintableByteStoresItsGlyphByte : ∀ x ∈ [(0, 0, 0), (8, 48, 1)],
    ({ listening .scan with row := x.1, idx := x.2.1, skip := x.2.2 } : State).eol = false
    ∧ x.2.2 ≤ x.2.1 ∧ x.1 * 48 + (x.2.1 - x.2.2) < 432 := by decide

theorem witness_PrintableByteBehindTheLatchIsDropped : ({ listening .scan with eol := true } : State).eol = true := rfl

theorem witness_CaseCodesMoveALegacyFont : ({ listening .scan with font := .pc } : State).font = .pc
    ∧ ({ listening .scan with font := .c64Lower } : State).font ≠ .pc := by decide

theorem witness_ScanVisitsEveryEntryOfEveryRow :
    (∃ s : State, s.idx < s.lineLen) ∧ (∃ s : State, s.lineLen ≤ s.idx ∧ s.row < 7) ∧ ∃ s : State, s.lineLen ≤ s.idx ∧ 7 ≤ s.row :=
  ⟨⟨{ listening .scan with idx := 47, lineLen := 48 }, by decide⟩, ⟨{ listening .scan with row := 6 }, by decide⟩,
    ⟨{ listening .scan with row := 7 }, by decide⟩⟩

/-- A listed glyph byte in the non-legacy font, and a lookup of which no cell lists anything. -/
theorem witness_GlyphLookupReadsTheTables : fixture.cfg.wf = true ∧ 7 < 8
    ∧ tableByte fixture .pglyph (0xFF * 8 + 7) = 0x07#8
    ∧ tableByte fixture .lglyph (((tableByte fixture .xlat 0x41).toNat + 256 + 128) * 8 + 3) = 0xB4#8
    ∧ State.reset.readByte .xlat 0x41 = none ∧ State.reset.readByte .pglyph (0x41 * 8 + 7) = none := by decide

theorem witness_GlyphAddressesFitTheirWidths : fixtureConfig.wf = true ∧ fixtureConfig.variantOffset = 256 ∧ fixtureConfig.reverseOffset = 128
    ∧ Config.wf { fixtureConfig with variantOffset := 640 } = true := by decide

theorem fill_isSome (a : Nat) (h : a < 432) : ((Memory.fill 432 0x00#8).read a).isSome = true := by
  rw [Memory.read_fill, if_pos h]; rfl

theorem witness_FinishedBitmapIsHandedOver : ∃ s : State, s.stage = .pad ∧ (sample s).pins.rst = false
    ∧ ∀ a, a < 432 → (s.readByte .bmp a).isSome = true :=
  ⟨{ listening .pad with bmp := Memory.fill 432 0x00#8 }, rfl, rfl, fill_isSome⟩

theorem witness_PrintReturnsThenTheLineIsReset :
    (∃ s : State, s.stage = .print ∧ (sample s).pins.rst = false ∧ s.prIdx < 432 ∧ (sample s).pins.prReady = true)
    ∧ ∀ b : Bool, ∃ s : State, s.stage = .print ∧ (sample s).pins.rst = false ∧ 432 ≤ s.prIdx ∧ (sample s).pins.prAck = true ∧ s.rxEod = b :=
  ⟨⟨{ listening .print with prIdx := 431, tape := [{ prReady := true }] }, rfl, rfl, by decide, rfl⟩,
    fun b => ⟨{ listening .print with prIdx := 432, rxEod := b, tape := [{ prAck := true }] }, rfl, rfl, Nat.le_refl 432, rfl, rfl⟩⟩

theorem witness_RenderedBitmapHasItsClosedForm : scanning.cfg.wf = true ∧ scanning.stage = .scan ∧ scanning.row = 0 ∧ scanning.idx = 0
    ∧ scanning.eol = false ∧ scanning.rvs = false ∧ scanning.skip = 0 ∧ scanning.lineLen ≤ 48
    ∧ scanning.readByte .line scanning.lineLen = some scanning.cfg.codeCr
    ∧ (∀ a, a < scanning.lineLen → ∃ b, scanning.readByte .line a = some b ∧ b ≠ scanning.cfg.codeCr)
    ∧ (∀ a, a < 432 → scanning.readByte .bmp a = some scanning.cfg.blank) ∧ ∀ p ∈ scanning.tape, p.rst = false :=
  ⟨by decide, rfl, rfl, rfl, rfl, rfl, rfl, by decide, rfl,
    fun a h => by
      obtain rfl : a = 0 := Nat.lt_one_iff.1 h
      exact ⟨0x41#8, rfl, by decide⟩,
    fun a h => (Memory.read_fill 432 0x00#8 a).trans (if_pos h), by decide⟩

theorem witness_TalkSessionSendsTheIdentification : ∃ s t : State, s.tape = List.replicate s.cfg.idLen { txReady := true } ++ []
    ∧ exec (.dataT 15#4) s = .next t :=
  ⟨{ fixture with stage := .sw, tape := [{ txReady := true }, { txReady := true }] }, _, rfl, rfl⟩

/-- A sample that answers `decode_attention()` with a command of a direction and a verb, and an argument of the greatest length. -/
def commandSample (x : Dir × Nibble) : Pins :=
  { atnAck := true, atnRes := x.1.res, atnCode := commandCode x.2 7#4, atnArgLen := 16 }

theorem witness_CycleWithoutDataPhaseLeavesTheStateAsItWas : ∀ x ∈ [(Dir.talk, 0xF#4), (.listen, 0x5#4), (.command, 0x6#4)],
    ∃ (s : State) (p0 p1 p2 : Pins), s.cfg.wf = true ∧ s.stage = .host ∧ s.phase = .idle ∧ s.svcBusy = false ∧ s.crit = false
    ∧ s.tape = [p0, p1, p2] ∧ p0.rst = false ∧ p0.init = false ∧ p0.svcStart = true ∧ (s.cfg.hasResetLine && p0.drvReset) = false
    ∧ p1.rst = false ∧ p1.atnAck = true ∧ p1.atnRes = x.1.res ∧ p1.atnCode = commandCode x.2 7#4
    ∧ p1.atnArgLen % 2 ^ s.cfg.argWidth ≤ s.cfg.argMax ∧ (x.2 ≠ s.cfg.verbData ∨ x.1 = .command) ∧ p2.rst = false :=
  fun x hx => ⟨{ fixture with tape := [{ svcStart := true }, commandSample x, {}] }, { svcStart := true }, commandSample x, {},
    fixture_wf, rfl, rfl, rfl, rfl, rfl, rfl, rfl, rfl, rfl, rfl, rfl, rfl, rfl, argument_fits, by revert x; decide, rfl⟩

theorem witness_CycleWithBusResetDecodesNothing : ∃ (s : State) (p0 p1 : Pins), s.stage = .host ∧ s.tape = [p0, p1]
    ∧ s.cfg.hasResetLine = true ∧ p0.rst = false ∧ p0.init = false ∧ p0.svcStart = true ∧ p0.drvReset = true ∧ p1.rst = false :=
  ⟨{ fixture with tape := [{ svcStart := true, drvReset := true }, {}] }, { svcStart := true, drvReset := true }, {},
    rfl, rfl, rfl, rfl, rfl, rfl, rfl, rfl⟩

/-- The signal asserted in a sample of the wait, and in the answer itself: both meet the premises. -/
theorem witness_BusResetInASessionDropsTheLine : ∀ waiting ∈ [[{ drvReset := true }, {}], []],
    ∃ (s : State) (a answer completion poll word : Pins), s.stage = .rx ∧ s.cmdRes = Dir.listen.res ∧ s.cfg.hasResetLine = true
    ∧ s.tape = waiting ++ answer :: completion :: [{}] ++ poll :: word :: []
    ∧ (∀ p ∈ waiting, p.rst = false ∧ p.rxAck = false) ∧ a ∈ waiting ++ [answer] ∧ a.drvReset = true
    ∧ ResetUnblocks waiting answer ∧ answer.rst = false ∧ completion.rst = false
    ∧ (∀ p ∈ [({} : Pins)], p.rst = false ∧ p.init = false ∧ p.svcStart = false)
    ∧ poll.rst = false ∧ poll.init = false ∧ poll.svcStart = true ∧ ResetHeld a poll ∧ word.rst = false :=
  fun waiting h =>
    ⟨{ listening .rx with
        tape := waiting ++ { drvReset := true, rxAck := true, rxErr := true } :: {} :: [{}]
          ++ { svcStart := true, drvReset := true } :: {} :: [] },
      { drvReset := true, rxAck := true, rxErr := true }, { drvReset := true, rxAck := true, rxErr := true }, {},
      { svcStart := true, drvReset := true }, {}, rfl, rfl, rfl, rfl, by revert waiting; decide,
      List.mem_append_right _ (List.mem_singleton.2 rfl), rfl, fun _ => ⟨rfl, rfl⟩, rfl, rfl, by decide, rfl, rfl, rfl, fun _ => rfl, rfl⟩

theorem witness_SessionForgetsFontAndLineLength : (listening .fontSelect).stage = .fontSelect := rfl

theorem witness_FlushForgetsTheOldBitmap : ({ listening .ingest with lineLen := 47 } : State).lineLen = 47 := rfl

/-- A state in the middle of a render meets the invariant. -/
theorem witness_Inv : Inv scanning where
  memory := ⟨by decide, Memory.wf_fill 432 0x00#8, by decide, by decide, by decide, by decide⟩
  control := ⟨by decide, rfl, rfl, rfl, rfl, rfl, fun h => by cases h⟩
  line := {
    open_len := fun _ => by decide
    len := by decide
    entries := fun a h => by
      obtain rfl : a = 0 := Nat.lt_one_iff.1 h
      exact ⟨0x41#8, rfl, by decide⟩
    terminator := fun _ => rfl }
  render := {
    full := fun _ => fill_isSome
    row := fun _ => by decide
    idx := fun _ => by decide
    eol := fun _ => rfl
    skip := fun _ => rfl
    rvs := fun _ => rfl }

theorem witness_EveryStepKeepsTheInvariant : Inv scanning ∧ ∃ t, step scanning = .next t :=
  ⟨witness_Inv, (next_of_nextWith (p := fun _ => true) (by decide)).imp fun _ h => h.1⟩

theorem witness_InvariantStatesStopSafely : Inv scanning ∧ scanning.stage = .scan := ⟨witness_Inv, rfl⟩

/-- A state at the dispatch of a service word that meets the invariant. -/
def dispatching : State := { fixture with stage := .sw, svcBusy := true, crit := true, tape := [attentionSample 0x3F7] }

theorem witness_PhaseMovesOnlyFromAndToIdle : Inv dispatching ∧ ∃ t, step dispatching = .next t ∧ t.phase ≠ dispatching.phase :=
  ⟨{ memory := ⟨by decide, by decide, by decide, by decide, by decide, by decide⟩
     control := ⟨by decide, rfl, rfl, rfl, rfl, rfl, fun h => by cases h⟩
     line := ⟨fun _ => by decide, by decide, fun _ h => absurd h (Nat.not_lt_zero _), fun h => by cases h⟩
     render := ⟨fun h => (by cases h), fun h => (by cases h), fun h => (by cases h), fun h => (by cases h), fun h => (by cases h),
       fun h => (by cases h)⟩ },
    next_of_eval _ (fun t => decide (t.phase ≠ dispatching.phase)) (fun _ h => of_decide_eq_true h) (by decide)⟩

theorem witness_ParametersAndTablesNeverChange : ∃ t, step dispatching = .next t :=
  (next_of_nextWith (p := fun _ => true) (by decide)).imp fun _ h => h.1

theorem witness_FontHasThreeWriters :
    (∀ s ∈ [{ fixture with font := .pc, tape := [{ rst := true }] }, { fixture with font := .pc, tape := [{ init := true }] },
        { fixture with font := .pc, stage := .sw, pollR := true },
        { fixture with font := .pc, stage := .sw, tape := [attentionSample 0x400] },
        { listening .fontSelect with font := .pc }],
      ∃ t, step s = .next t ∧ t.font ≠ .pc)
    ∧ (∃ t, step { listening .scan with lineLen := 1, line := [(0, 0x11#8), (1, 0x0D#8)] } = .next t ∧ t.font ≠ .c64Upper)
    ∧ ∃ t, step { listening .scan with font := .c64Lower, lineLen := 1, line := [(0, 0x91#8), (1, 0x0D#8)] } = .next t
      ∧ t.font ≠ .c64Lower :=
  ⟨fun s h => next_of_eval _ (fun t => decide (t.font ≠ .pc)) (fun _ h => of_decide_eq_true h) (by revert s; decide),
    next_of_eval _ (fun t => decide (t.font ≠ .c64Upper)) (fun _ h => of_decide_eq_true h) (by decide),
    next_of_eval _ (fun t => decide (t.font ≠ .c64Lower)) (fun _ h => of_decide_eq_true h) (by decide)⟩

theorem witness_PendingErrorIsWrittenByResetOnly :
    ∀ s ∈ [{ fixture with pendingErr := 0x01#8, tape := [{ rst := true }] }, { fixture with pendingErr := 0x01#8, tape := [{ init := true }] },
      { fixture with pendingErr := 0x01#8, stage := .sw, pollR := true },
      { fixture with pendingErr := 0x01#8, stage := .sw, tape := [attentionSample 0x700] }],
    ∃ t, step s = .next t ∧ t.pendingErr ≠ 0x01#8 :=
  fun s h => next_of_eval _ (fun t => decide (t.pendingErr ≠ 0x01#8)) (fun _ h => of_decide_eq_true h) (by revert s; decide)

theorem witness_EventsAreOnlyAppended : ∃ t, step { fixture with tape := [{ svcStart := true }] } = .next t ∧ t.trace.length = 2 :=
  next_of_eval _ (fun t => decide (t.trace.length = 2)) (fun _ h => of_decide_eq_true h) (by decide)

theorem witness_EveryPrintIs384By9 : ∃ (s t : State) (bytes : List Byte), step s = .next t
    ∧ t.trace = s.trace ++ [.printRaster 384 9 bytes] ∧ Event.printRaster 384 9 bytes ∈ [Event.printRaster 384 9 bytes] := by
  have hf : fetch (sample { listening .pad with bmp := Memory.fill 432 0x00#8 })
      = .piece (padAndPrint (sample { listening .pad with bmp := Memory.fill 432 0x00#8 })) := by simp only [fetch, sample_stage, listening]
  obtain ⟨t, h⟩ := padAndPrint_of_full (s := sample { listening .pad with bmp := Memory.fill 432 0x00#8 }) fill_isSome
  obtain ⟨bytes, -, -, e⟩ := padAndPrint_next h
  exact ⟨_, t, bytes, (step_of_running rfl).trans ((advance_piece hf).trans h), by rw [e]; rfl, List.mem_singleton.2 rfl⟩

theorem witness_InsideACycleResetLineAndHostAreNotLookedAt : ∃ (s : State) (p : Pins), s.tape = [p] ∧ s.stage ≠ .host :=
  ⟨dispatching, attentionSample 0x3F7, rfl, by decide⟩

theorem witness_AtMostOneRequestIsUp : (outputs (listening .print)).prValid = true := rfl

end Sys2Proof.Tests
end

section
/-! The word a step takes at each stage, the decoded instruction it runs, and the record of events, which only grows
(spec/00_scope.md R4, R16). -/
namespace Sys2Proof.Machine

/-! ### What is fetched at each stage -/

theorem fetch_of_host {s : State} (h : s.stage = .host) : fetch s = .word .host (hostWord s.pins.init s.pins.svcStart) := by
  simp only [fetch, h]

theorem fetch_of_sw {s : State} (h : s.stage = .sw) : fetch s = fetchServiceWord s := by simp only [fetch, h]

theorem fetch_of_talk {s : State} (h : s.stage = .talk) : fetch s = fetchTalk s := by simp only [fetch, h]

theorem fetch_of_fontSelect {s : State} (h : s.stage = .fontSelect) : fetch s = .word .fs (chanOf s.cmdCode).toNat := by
  simp only [fetch, h]

theorem fetch_of_openSession {s : State} (h : s.stage = .openSession) : fetch s = .piece (.next (openSession s)) := by
  simp only [fetch, h]

theorem fetch_of_rx {s : State} (h : s.stage = .rx) : fetch s =
    if s.pins.rxAck then .word .rxa (receiveWord s.pins.rxErr s.pins.rxEod s.pins.rxData) else .waiting .receive := by
  simp only [fetch, h]

theorem fetch_of_ingest {s : State} (h : s.stage = .ingest) : fetch s = .word .dbIng s.rxByte.toNat := by
  simp only [fetch, h]

theorem fetch_of_scan {s : State} (h : s.stage = .scan) : fetch s = fetchScan s := by simp only [fetch, h]

theorem fetch_of_pad {s : State} (h : s.stage = .pad) : fetch s = .piece (padAndPrint s) := by simp only [fetch, h]

theorem fetch_of_print {s : State} (h : s.stage = .print) : fetch s = fetchPrint s := by simp only [fetch, h]

theorem fetch_of_complete {s : State} (h : s.stage = .complete) : fetch s = .piece (.next (completeCycle s)) := by
  simp only [fetch, h]

/-! ### The words -/

/-- Bit `R` of a service word is its top bit, bit 11 (spec/30_encoding.md R76). -/
theorem serviceWord_true (res : BitVec 3) (code : Byte) : serviceWord true res code = 2048 + serviceWord false res code := by
  simp only [serviceWord, Bool.toNat_true, Bool.toNat_false]
  omega

theorem serviceWord_false (res : BitVec 3) (code : Byte) : serviceWord false res code = res.toNat * 256 + code.toNat := by
  simp only [serviceWord, Bool.toNat_false]
  omega

/-- Without bit `R` a service word has 11 bits. -/
theorem serviceWord_false_lt (res : BitVec 3) (code : Byte) : serviceWord false res code < 2048 := by
  have hres := res.isLt
  have hcode := code.isLt
  rw [serviceWord_false]
  omega

theorem chanOf_toNat (code : Byte) : (chanOf code).toNat = code.toNat % 16 := BitVec.toNat_ofNat _ _

/-! ### The word taken at the dispatch and in a scan -/

theorem fetchServiceWord_of_pollR {s : State} (h : s.pollR = true) :
    fetchServiceWord s = .word .sw (serviceWord true s.pins.atnRes s.pins.atnCode) := by
  simp only [fetchServiceWord, h, if_true]

theorem fetchServiceWord_of_answer {s : State} (hpoll : s.pollR = false) (hack : s.pins.atnAck = true)
    (hkeeps : breaksContract s = false) : fetchServiceWord s = .word .sw (serviceWord false s.pins.atnRes s.pins.atnCode) := by
  simp only [fetchServiceWord, hpoll, hack, hkeeps, Bool.not_true, Bool.false_eq_true, if_false]

/-- The driver's contract holds when the argument fits, and for an answer that decodes no command, which has no argument
(spec/93_implementation_defined.md U11). -/
theorem breaksContract_eq_false {s : State} (h : argLenIn s ≤ s.cfg.argMax ∨ ∀ d : Dir, s.pins.atnRes ≠ d.res) :
    breaksContract s = false := by
  rw [← Bool.not_eq_true, breaksContract_iff]
  rintro ⟨hres, htoo⟩
  obtain hfits | hno := h
  · omega
  · obtain h1 | h2 | h3 := hres
    · exact hno .talk h1
    · exact hno .listen h2
    · exact hno .command h3

theorem fetchScan_of_byte {s : State} {b : Byte} (hidx : s.idx < 49) (hb : s.readByte .line s.idx = some b) :
    fetchScan s = .word .dbScan b.toNat := by
  have hread : memRead s .line s.idx = .ok b := memRead_ok.2 ⟨hidx, hb⟩
  simp only [fetchScan, hread]

/-! ### The pieces of the handlers -/

/-- What a step that takes no instruction does, stage by stage: in the other stages `fetch` finds a word, a call that waits, or a
piece that stops. -/
theorem fetch_piece_next {s t : State} (h : fetch s = .piece (.next t)) :
    (s.stage = .talk ∧ s.pins.txReady = true ∧ t = sendTaken s)
    ∨ (s.stage = .openSession ∧ t = openSession s)
    ∨ (s.stage = .pad ∧ padAndPrint s = .next t)
    ∨ (s.stage = .print ∧ s.prIdx < 432 ∧ s.pins.prReady = true ∧ t = { s with prIdx := s.prIdx + 1 })
    ∨ (s.stage = .print ∧ 432 ≤ s.prIdx ∧ s.pins.prAck = true ∧ t = printReturned s)
    ∨ (s.stage = .complete ∧ t = completeCycle s) := by
  cases hst : s.stage with
  | host => rw [fetch_of_host hst] at h; cases h
  | sw =>
    rw [fetch_of_sw hst, fetchServiceWord] at h
    split_ifs at h
    cases h
  | talk =>
    rw [fetch_of_talk hst, fetchTalk] at h
    split at h
    · cases h
    · split_ifs at h with hready
      cases h
      exact .inl ⟨rfl, hready, rfl⟩
  | fontSelect => rw [fetch_of_fontSelect hst] at h; cases h
  | openSession => rw [fetch_of_openSession hst] at h; cases h; exact .inr (.inl ⟨rfl, rfl⟩)
  | rx => rw [fetch_of_rx hst] at h; split_ifs at h
  | ingest => rw [fetch_of_ingest hst] at h; cases h
  | scan =>
    rw [fetch_of_scan hst, fetchScan] at h
    split at h <;> cases h
  | pad =>
    rw [fetch_of_pad hst] at h
    exact .inr (.inr (.inl ⟨rfl, by injection h⟩))
  | print =>
    rw [fetch_of_print hst, fetchPrint] at h
    split_ifs at h with hidx hready hack
    · cases h
      exact .inr (.inr (.inr (.inl ⟨rfl, hidx, hready, by rw [hst]⟩)))
    · cases h
      exact .inr (.inr (.inr (.inr (.inl ⟨rfl, Nat.not_lt.1 hidx, hack, rfl⟩))))
  | complete =>
    rw [fetch_of_complete hst] at h
    cases h
    exact .inr (.inr (.inr (.inr (.inr ⟨rfl, rfl⟩))))

/-! ### The events an operation records -/

/-- From `s` to `t` the record of events grows, by at most two. -/
def TraceGrows (s t : State) : Prop := ∃ es, t.trace = s.trace ++ es ∧ es.length ≤ 2

theorem TraceGrows.of_same {s t : State} (h : t.trace = s.trace) : TraceGrows s t :=
  ⟨[], by rw [h, List.append_nil], Nat.zero_le _⟩

theorem TraceGrows.of_event {s t : State} {e : Event} (h : t.trace = s.trace ++ [e]) : TraceGrows s t :=
  ⟨[e], h, Nat.le_succ 1⟩

/-- Only the record of the first state matters. -/
theorem TraceGrows.of_trace_eq {s u t : State} (hu : u.trace = s.trace) (h : TraceGrows u t) : TraceGrows s t := by
  unfold TraceGrows at h ⊢
  rwa [← hu]

@[simp] theorem beginRender_trace (s : State) : (beginRender s).trace = s.trace := rfl

@[simp] theorem advanceScan_trace (s : State) : (advanceScan s).trace = s.trace := by
  obtain ⟨-, h⟩ | ⟨-, -, h⟩ | ⟨-, -, h⟩ := advanceScan_cases s <;> simp only [h, startRowScan]

@[simp] theorem setCase_trace (f : Font) (s : State) : (setCase f s).trace = s.trace := by
  obtain ⟨-, h⟩ | ⟨-, h⟩ := setCase_cases f s <;> rw [h]

/-- A send call records at most the call. -/
theorem callSend_traceGrows (s : State) : TraceGrows s (callSend s) := by
  obtain ⟨-, h⟩ | ⟨b, -, -, h⟩ := callSend_cases s <;> rw [h]
  · exact .of_same rfl
  · exact .of_event (emit_trace _ s)

/-- The end of a turn records at most the next `receive()`. -/
theorem endOfTurn_traceGrows (s : State) : TraceGrows s (endOfTurn s) := by
  obtain ⟨-, h⟩ | ⟨-, h⟩ := endOfTurn_cases s <;> rw [h]
  · exact .of_same rfl
  · exact .of_event (callReceive_trace s)

theorem flush_trace {s t : State} (h : flush s = .next t) : t.trace = s.trace := by
  obtain ⟨-, rfl⟩ := flush_next h
  rfl

theorem execIngChar_traceGrows {b : Byte} {s t : State} (h : execIngChar b s = .next t) : TraceGrows s t := by
  obtain ⟨-, ⟨-, h⟩ | ⟨-, rfl⟩⟩ := execIngChar_next h
  · have htrace := flush_trace h
    exact .of_same htrace
  · exact .of_trace_eq rfl (endOfTurn_traceGrows _)

theorem scanPrint_trace {b : Byte} {s t : State} (h : scanPrint b s = .next t) : t.trace = s.trace := by
  obtain ⟨-, rfl⟩ | ⟨-, -, -, rfl⟩ := scanPrint_next h
  · exact advanceScan_trace s
  · exact advanceScan_trace _

/-! ### The events an instruction records, format by format -/

theorem exec_decodeServiceWord_traceGrows {c : Config} {w : Nat} {s t : State} (h : exec (decodeServiceWord c w) s = .next t) :
    TraceGrows s t := by
  obtain ⟨-, e⟩ | e | ⟨-, -, res, code, e⟩ | ⟨d, k, p, -, e⟩ | ⟨k, e⟩ | ⟨k, e⟩ := exec_decodeServiceWord c w s <;>
    (rw [e] at h; cases h)
  case inl => exact .of_event (returnCycle_trace .reset (doReset s))
  case inr.inl => exact .of_event (returnCycle_trace .idle (latchIdle s))
  case inr.inr.inl => exact .of_event (returnCycle_trace .error (doReset (latchError res code s)))
  case inr.inr.inr.inl => exact .of_same rfl
  case inr.inr.inr.inr.inl => exact .of_trace_eq rfl (callSend_traceGrows _)
  case inr.inr.inr.inr.inr => exact .of_same rfl

theorem exec_decodeReceive_trace {w : Nat} {s t : State} (h : exec (decodeReceive w) s = .next t) : t.trace = s.trace := by
  obtain ⟨b, eod, e⟩ | ⟨b, eod, e⟩ := exec_decodeReceive w s
  all_goals
    rw [e] at h
    cases h
    rfl

theorem exec_decodeIngest_traceGrows {c : Config} {b : Byte} {s t : State} (h : exec (decodeIngest c b) s = .next t) :
    TraceGrows s t := by
  obtain ⟨-, e⟩ | ⟨-, e⟩ := exec_decodeIngest c b s <;> rw [e] at h
  · exact .of_same (flush_trace h)
  · exact execIngChar_traceGrows h

theorem exec_decodeScan_trace {c : Config} {b : Byte} {s t : State} (h : exec (decodeScan c b) s = .next t) :
    t.trace = s.trace := by
  obtain ⟨-, e⟩ | ⟨-, hcontrol⟩ := exec_decodeScan c b s
  · exact scanPrint_trace (e ▸ h)
  · obtain ⟨-, e⟩ | ⟨-, e⟩ | ⟨-, e⟩ | ⟨-, e⟩ | ⟨-, e⟩ | ⟨-, e⟩ := hcontrol
    all_goals
      rw [e] at h
      cases h
      simp

theorem exec_decodeFontSelect_trace {ch : Nibble} {s t : State} (h : exec (decodeFontSelect ch) s = .next t) :
    t.trace = s.trace := by
  obtain ⟨f, e⟩ := exec_decodeFontSelect ch s
  rw [e] at h
  cases h
  rfl

/-- The start of a cycle is the only step with two events: the reset poll and the attention call (log entry 21). -/
theorem exec_decodeHost_traceGrows {w : Nat} {s t : State} (h : exec (decodeHost w) s = .next t) : TraceGrows s t := by
  obtain ⟨-, e⟩ | e | e := exec_decodeHost w s <;> rw [e] at h
  · cases h
    exact .of_same rfl
  · obtain ⟨tr, rfl, es, htr, hlen, -⟩ := execHostServiceCycle_next h
    exact ⟨es, htr, hlen⟩
  · cases h
    exact .of_same rfl

theorem exec_decoded_traceGrows {c : Config} {f : Format} {w : Nat} {i : Instr} {s t : State} (hd : decode c f w = .ok i)
    (h : exec i s = .next t) : TraceGrows s t := by
  cases f with
  | sw => obtain ⟨-, rfl⟩ := decode_sw_ok.1 hd; exact exec_decodeServiceWord_traceGrows h
  | rxa => obtain ⟨-, rfl⟩ := decode_rxa_ok.1 hd; exact .of_same (exec_decodeReceive_trace h)
  | dbIng => obtain ⟨-, rfl⟩ := decode_dbIng_ok.1 hd; exact exec_decodeIngest_traceGrows h
  | dbScan => obtain ⟨-, rfl⟩ := decode_dbScan_ok.1 hd; exact .of_same (exec_decodeScan_trace h)
  | fs => obtain ⟨-, rfl⟩ := decode_fs_ok.1 hd; exact .of_same (exec_decodeFontSelect_trace h)
  | host => obtain ⟨-, rfl⟩ := decode_host_ok.1 hd; exact exec_decodeHost_traceGrows h

/-! ### The events a piece of a handler records -/

theorem sendTaken_traceGrows (s : State) : TraceGrows s (sendTaken s) := by
  obtain ⟨-, h⟩ | ⟨-, h⟩ := sendTaken_cases s <;> rw [h]
  · exact .of_trace_eq rfl (callSend_traceGrows _)
  · exact .of_same rfl

theorem padAndPrint_traceGrows {s t : State} (h : padAndPrint s = .next t) : TraceGrows s t := by
  obtain ⟨bytes, -, -, rfl⟩ := padAndPrint_next h
  exact .of_event rfl

theorem piece_traceGrows {s t : State} (h : fetch s = .piece (.next t)) : TraceGrows s t := by
  obtain ⟨-, -, rfl⟩ | ⟨-, rfl⟩ | ⟨-, hpad⟩ | ⟨-, -, -, rfl⟩ | ⟨-, -, -, rfl⟩ | ⟨-, rfl⟩ := fetch_piece_next h
  · exact sendTaken_traceGrows s
  · exact .of_event (callReceive_trace _)
  · exact padAndPrint_traceGrows hpad
  · exact .of_same rfl
  · exact .of_trace_eq rfl (endOfTurn_traceGrows _)
  · exact .of_event (returnCycle_trace _ _)

/-! ### The step -/

theorem step_traceGrows {s t : State} (h : step s = .next t) : TraceGrows s t := by
  refine .of_trace_eq (sample_trace s) ?_
  obtain ⟨-, rfl⟩ | ⟨-, f, w, i, -, hd, hi⟩ | ⟨-, hp⟩ | ⟨-, -, rfl, -⟩ := step_next_cases h
  · exact .of_same (hardwareReset_trace _)
  · exact exec_decoded_traceGrows hd hi
  · exact piece_traceGrows hp
  · exact .of_same rfl

/-! ### The statements -/

/-- Settles O57: each of the four ways a step goes on makes the record longer by at most two events. -/
theorem eventsAreOnlyAppended : Obligations.EventsAreOnlyAppended := by
  unfold Obligations.EventsAreOnlyAppended
  intro s t h
  exact step_traceGrows h

/-- Settles O5: sampling leaves the parameters, so the word decodes alike before and after it. -/
theorem stepRunsTheDecodedInstruction : Obligations.StepRunsTheDecodedInstruction := by
  unfold Obligations.StepRunsTheDecodedInstruction
  intro s f w i hrun hword hdecode
  have hdecode' : decode (sample s).cfg f w = .ok i := by rwa [sample_cfg]
  rw [step_of_running hrun, advance_word hword hdecode']

/-- Settles O6, stage by stage. -/
theorem wordTakenAtEachStage : Obligations.WordTakenAtEachStage := by
  unfold Obligations.WordTakenAtEachStage
  intro s
  refine ⟨fetch_of_host, fun hst hpoll => ?reset, fun hst hpoll hack hkeeps => ?answer, fun hst => ?font, fun hst hack => ?receive,
    fetch_of_ingest, fun hst b hidx hb => ?scan⟩
  case reset =>
    refine ⟨serviceWord false s.pins.atnRes s.pins.atnCode, serviceWord_false_lt _ _, ?_⟩
    rw [fetch_of_sw hst, fetchServiceWord_of_pollR hpoll, serviceWord_true]
  case answer =>
    rw [fetch_of_sw hst, fetchServiceWord_of_answer hpoll hack (breaksContract_eq_false hkeeps), serviceWord_false]
  case font => rw [fetch_of_fontSelect hst, chanOf_toNat]
  case receive => rw [fetch_of_rx hst, if_pos hack, receiveWord]
  case scan => rw [fetch_of_scan hst, fetchScan_of_byte hidx hb]

end Sys2Proof.Machine
end

section
/-! Who writes the control registers `phase`, `font` and `pending_err` (spec/10_state.md R23, R28, R29), what the four causes of a
reset leave in the registers (R45), and the invariant at reset (R46). -/
namespace Sys2Proof.Machine

/-! ### The reset routine -/

theorem doReset_resetRegisters (s : State) : ResetRegisters s (doReset s) := ⟨rfl, rfl, rfl, rfl, rfl, rfl⟩

/-- The return of the cycle writes none of the registers of `do_reset`. -/
theorem ResetRegisters.returnCycle {s t : State} (h : ResetRegisters s t) (oc : OutcomeCode) :
    ResetRegisters s (returnCycle oc t) :=
  ⟨h.phase, h.openState, h.pendingErr, h.font, h.lineLen, h.crit⟩

/-- The parameters are all that the routine reads of the state before it. -/
theorem ResetRegisters.of_cfg_eq {s u t : State} (h : ResetRegisters u t) (hcfg : u.cfg = s.cfg) : ResetRegisters s t :=
  ⟨h.phase, h.openState, hcfg ▸ h.pendingErr, h.font, h.lineLen, h.crit⟩

theorem hardwareReset_resetRegisters (s : State) : ResetRegisters s (hardwareReset s) := ⟨rfl, rfl, rfl, rfl, rfl, rfl⟩

theorem busReset_resetRegisters (s : State) : ResetRegisters s (takeException .busResetSignaled s) :=
  (doReset_resetRegisters s).returnCycle .reset

/-- The answer of a failed decode is latched first, which writes none of the parameters. -/
theorem decodeFailed_resetRegisters (res : BitVec 3) (code : Byte) (s : State) : ResetRegisters s (decodeFailed res code s) :=
  ((doReset_resetRegisters (latchError res code s)).returnCycle .error).of_cfg_eq rfl

/-! ### The word fetched at each stage -/

/-- The upper bit of a host request is `init_i` (spec/44_interfaces.md R204). -/
theorem two_le_hostWord_iff {init start : Bool} : 2 ≤ hostWord init start ↔ init = true := by
  cases init <;> cases start <;> decide

/-- At which stage a step takes a word, of which format, and where the word comes from. A service word above 1023 has bit `R` or a
result above 3, which are the two causes of a reset at the dispatch. -/
theorem fetch_word {s : State} {f : Format} {w : Nat} (h : fetch s = .word f w) :
    (s.stage = .host ∧ f = .host ∧ w = hostWord s.pins.init s.pins.svcStart)
    ∨ (s.stage = .sw ∧ f = .sw ∧ (1024 ≤ w → s.pollR = true ∨ (s.pins.atnAck = true ∧ 4 ≤ s.pins.atnRes.toNat)))
    ∨ (s.stage = .fontSelect ∧ f = .fs)
    ∨ (s.stage = .rx ∧ f = .rxa)
    ∨ (s.stage = .ingest ∧ f = .dbIng)
    ∨ (s.stage = .scan ∧ f = .dbScan ∧ s.readByte .line s.idx = some (BitVec.ofNat 8 w)) := by
  cases hst : s.stage with
  | host => rw [fetch_of_host hst] at h; cases h; exact .inl ⟨rfl, rfl, rfl⟩
  | sw =>
    refine .inr (.inl ⟨rfl, ?_⟩)
    rw [fetch_of_sw hst, fetchServiceWord] at h
    split_ifs at h with hpoll hack hbreaks
    · cases h
      exact ⟨rfl, fun _ => .inl hpoll⟩
    · cases h
      refine ⟨rfl, fun hw => .inr ⟨by simpa using hack, ?_⟩⟩
      have hcode := s.pins.atnCode.isLt
      rw [serviceWord_false] at hw
      omega
  | talk =>
    rw [fetch_of_talk hst, fetchTalk] at h
    split at h
    · cases h
    · split_ifs at h
  | fontSelect => rw [fetch_of_fontSelect hst] at h; cases h; exact .inr (.inr (.inl ⟨rfl, rfl⟩))
  | openSession => rw [fetch_of_openSession hst] at h; cases h
  | rx =>
    rw [fetch_of_rx hst] at h
    split_ifs at h
    cases h
    exact .inr (.inr (.inr (.inl ⟨rfl, rfl⟩)))
  | ingest => rw [fetch_of_ingest hst] at h; cases h; exact .inr (.inr (.inr (.inr (.inl ⟨rfl, rfl⟩))))
  | scan =>
    rw [fetch_of_scan hst, fetchScan] at h
    split at h
    next b hread =>
      cases h
      refine .inr (.inr (.inr (.inr (.inr ⟨rfl, rfl, ?_⟩))))
      rw [BitVec.ofNat_toNat, BitVec.setWidth_eq]
      exact (memRead_ok.1 hread).2
    next => cases h
  | pad => rw [fetch_of_pad hst] at h; cases h
  | print => rw [fetch_of_print hst, fetchPrint] at h; split_ifs at h
  | complete => rw [fetch_of_complete hst] at h; cases h

/-! ### Operations that write no control register -/

/-- `phase`, `font` and `pending_err` are as they were. -/
structure KeepsControl (s t : State) : Prop where
  phase : t.phase = s.phase
  font : t.font = s.font
  pendingErr : t.pendingErr = s.pendingErr

theorem KeepsControl.after {s u t : State} (hut : KeepsControl u t) (hsu : KeepsControl s u) : KeepsControl s t :=
  ⟨hut.phase.trans hsu.phase, hut.font.trans hsu.font, hut.pendingErr.trans hsu.pendingErr⟩

theorem callSend_keepsControl (s : State) : KeepsControl s (callSend s) := by
  obtain ⟨-, h⟩ | ⟨b, -, -, h⟩ := callSend_cases s <;> rw [h] <;> exact ⟨rfl, rfl, rfl⟩

theorem sendTaken_keepsControl (s : State) : KeepsControl s (sendTaken s) := by
  obtain ⟨-, h⟩ | ⟨-, h⟩ := sendTaken_cases s <;> rw [h]
  · exact (callSend_keepsControl _).after ⟨rfl, rfl, rfl⟩
  · exact ⟨rfl, rfl, rfl⟩

theorem endOfTurn_keepsControl (s : State) : KeepsControl s (endOfTurn s) := by
  obtain ⟨-, h⟩ | ⟨-, h⟩ := endOfTurn_cases s <;> rw [h] <;> exact ⟨rfl, rfl, rfl⟩

theorem flush_keepsControl {s t : State} (h : flush s = .next t) : KeepsControl s t := by
  obtain ⟨-, rfl⟩ := flush_next h
  exact ⟨rfl, rfl, rfl⟩

theorem execIngChar_keepsControl {b : Byte} {s t : State} (h : execIngChar b s = .next t) : KeepsControl s t := by
  obtain ⟨-, ⟨-, hflush⟩ | ⟨-, rfl⟩⟩ := execIngChar_next h
  · exact (flush_keepsControl hflush).after ⟨rfl, rfl, rfl⟩
  · exact (endOfTurn_keepsControl _).after ⟨rfl, rfl, rfl⟩

theorem advanceScan_keepsControl (s : State) : KeepsControl s (advanceScan s) := by
  obtain ⟨-, h⟩ | ⟨-, -, h⟩ | ⟨-, -, h⟩ := advanceScan_cases s <;> rw [h] <;> exact ⟨rfl, rfl, rfl⟩

theorem scanPrint_keepsControl {b : Byte} {s t : State} (h : scanPrint b s = .next t) : KeepsControl s t := by
  obtain ⟨-, rfl⟩ | ⟨-, -, -, rfl⟩ := scanPrint_next h
  · exact advanceScan_keepsControl s
  · exact (advanceScan_keepsControl _).after ⟨rfl, rfl, rfl⟩

theorem callPrintRaster_keepsControl (bytes : List Byte) (s : State) : KeepsControl s (callPrintRaster bytes s) := ⟨rfl, rfl, rfl⟩

theorem padAndPrint_keepsControl {s t : State} (h : padAndPrint s = .next t) : KeepsControl s t := by
  obtain ⟨bytes, -, -, rfl⟩ := padAndPrint_next h
  exact (callPrintRaster_keepsControl bytes _).after ⟨rfl, rfl, rfl⟩

/-! ### Who writes a control register -/

/-- Byte `b` is a case code of the parameters `c`, and `f` is the variant it selects (spec/43_render.md R168, R169). -/
def SelectsCase (c : Config) (b : Byte) (f : Font) : Prop :=
  (b = c.codeCaseLower ∧ f = .c64Lower) ∨ (b = c.codeCaseUpper ∧ f = .c64Upper)

/-- How the control registers come from `s`, in which the inputs are sampled, to `t`: the writers of `phase` (R23), `font` (R28) and
`pending_err` (R29), each with the registers it keeps. -/
inductive ControlWrite (s t : State) : Prop where
  | reset (cause : ResetCause s) (registers : ResetRegisters s t)
  | dispatch (stage : s.stage = .sw) (font : t.font = s.font) (pendingErr : t.pendingErr = s.pendingErr)
  | fontSelection (stage : s.stage = .fontSelect) (phase : t.phase = s.phase) (pendingErr : t.pendingErr = s.pendingErr)
  | caseCode (b : Byte) (stage : s.stage = .scan) (legacy : s.font.legacy = true) (entry : s.readByte .line s.idx = some b)
      (selects : SelectsCase s.cfg b t.font) (phase : t.phase = s.phase) (pendingErr : t.pendingErr = s.pendingErr)
  | completion (stage : s.stage = .complete) (phase : t.phase = .idle) (font : t.font = s.font)
      (pendingErr : t.pendingErr = s.pendingErr)
  | kept (keeps : KeepsControl s t)

/-! ### The instructions, format by format -/

theorem exec_decodeHost_controlWrite {s t : State} (hst : s.stage = .host)
    (h : exec (decodeHost (hostWord s.pins.init s.pins.svcStart)) s = .next t) : ControlWrite s t := by
  obtain ⟨hw, e⟩ | e | e := exec_decodeHost (hostWord s.pins.init s.pins.svcStart) s <;> rw [e] at h
  · cases h
    exact .reset (.inr (.inl ⟨hst, two_le_hostWord_iff.1 hw⟩)) (doReset_resetRegisters s)
  · obtain ⟨tr, rfl, -⟩ := execHostServiceCycle_next h
    exact .kept ⟨rfl, rfl, rfl⟩
  · cases h
    exact .kept ⟨rfl, rfl, rfl⟩

/-- A service word resets only with bit `R` or a result above 3, that is above 1023; else it dispatches a command or ends an idle
cycle. -/
theorem exec_decodeServiceWord_controlWrite {c : Config} {w : Nat} {s t : State} (hst : s.stage = .sw)
    (hcause : 1024 ≤ w → s.pollR = true ∨ (s.pins.atnAck = true ∧ 4 ≤ s.pins.atnRes.toNat))
    (h : exec (decodeServiceWord c w) s = .next t) : ControlWrite s t := by
  have cause (hw : 1024 ≤ w) : ResetCause s := .inr (.inr ⟨hst, hcause hw⟩)
  obtain ⟨hw, e⟩ | e | ⟨-, hw, res, code, e⟩ | ⟨d, k, p, -, e⟩ | ⟨k, e⟩ | ⟨k, e⟩ := exec_decodeServiceWord c w s <;>
    (rw [e] at h; cases h)
  · exact .reset (cause (by omega)) (busReset_resetRegisters s)
  · exact .kept ⟨rfl, rfl, rfl⟩
  · exact .reset (cause (by omega)) (decodeFailed_resetRegisters res code s)
  · exact .dispatch hst rfl rfl
  · have hsend := callSend_keepsControl { dispatchCommand .talk k .dataTalk .talk s with txIdx := 0 }
    exact .dispatch hst hsend.font hsend.pendingErr
  · exact .dispatch hst rfl rfl

theorem exec_decodeFontSelect_controlWrite {ch : Nibble} {s t : State} (hst : s.stage = .fontSelect)
    (h : exec (decodeFontSelect ch) s = .next t) : ControlWrite s t := by
  obtain ⟨f, e⟩ := exec_decodeFontSelect ch s
  rw [e] at h
  cases h
  exact .fontSelection hst rfl rfl

theorem exec_decodeReceive_keepsControl {w : Nat} {s t : State} (h : exec (decodeReceive w) s = .next t) : KeepsControl s t := by
  obtain ⟨b, eod, e⟩ | ⟨b, eod, e⟩ := exec_decodeReceive w s
  all_goals
    rw [e] at h
    cases h
    exact ⟨rfl, rfl, rfl⟩

theorem exec_decodeIngest_keepsControl {c : Config} {b : Byte} {s t : State} (h : exec (decodeIngest c b) s = .next t) :
    KeepsControl s t := by
  obtain ⟨-, e⟩ | ⟨-, e⟩ := exec_decodeIngest c b s <;> rw [e] at h
  · exact flush_keepsControl h
  · exact execIngChar_keepsControl h

/-- A case code writes the font where it is a legacy one, and nothing else. -/
theorem advanceScan_setCase_controlWrite {b : Byte} {f : Font} {s : State} (hst : s.stage = .scan)
    (hb : s.readByte .line s.idx = some b) (hf : SelectsCase s.cfg b f) :
    ControlWrite s (advanceScan (setCase f (countSkip s))) := by
  have hadvance := advanceScan_keepsControl (setCase f (countSkip s))
  obtain ⟨-, e⟩ | ⟨hlegacy, e⟩ := setCase_cases f (countSkip s) <;> rw [e] at hadvance ⊢
  · exact .kept (hadvance.after ⟨rfl, rfl, rfl⟩)
  · exact .caseCode b hst hlegacy hb (hadvance.font ▸ hf) hadvance.phase hadvance.pendingErr

theorem exec_decodeScan_controlWrite {b : Byte} {s t : State} (hst : s.stage = .scan) (hb : s.readByte .line s.idx = some b)
    (h : exec (decodeScan s.cfg b) s = .next t) : ControlWrite s t := by
  have skip (u : State) (hu : KeepsControl s u) : ControlWrite s (advanceScan u) :=
    .kept ((advanceScan_keepsControl u).after hu)
  obtain ⟨-, e⟩ | ⟨-, hcontrol⟩ := exec_decodeScan s.cfg b s
  · exact .kept (scanPrint_keepsControl (e ▸ h))
  · obtain ⟨-, e⟩ | ⟨-, e⟩ | ⟨-, e⟩ | ⟨hlower, e⟩ | ⟨hupper, e⟩ | ⟨-, e⟩ := hcontrol <;> (rw [e] at h; cases h)
    · exact skip _ ⟨rfl, rfl, rfl⟩
    · exact skip _ ⟨rfl, rfl, rfl⟩
    · exact skip _ ⟨rfl, rfl, rfl⟩
    · exact advanceScan_setCase_controlWrite hst hb (.inl ⟨hlower, rfl⟩)
    · exact advanceScan_setCase_controlWrite hst hb (.inr ⟨hupper, rfl⟩)
    · exact skip _ ⟨rfl, rfl, rfl⟩

/-! ### The step -/

/-- The fetched word is decoded by its stage's decoder, and of the six only the four named ones write a control register. -/
theorem exec_fetched_controlWrite {f : Format} {w : Nat} {i : Instr} {s t : State} (hf : fetch s = .word f w)
    (hd : decode s.cfg f w = .ok i) (h : exec i s = .next t) : ControlWrite s t := by
  obtain ⟨hst, rfl, rfl⟩ | ⟨hst, rfl, hcause⟩ | ⟨hst, rfl⟩ | ⟨-, rfl⟩ | ⟨-, rfl⟩ | ⟨hst, rfl, hb⟩ := fetch_word hf
  · obtain ⟨-, rfl⟩ := decode_host_ok.1 hd; exact exec_decodeHost_controlWrite hst h
  · obtain ⟨-, rfl⟩ := decode_sw_ok.1 hd; exact exec_decodeServiceWord_controlWrite hst hcause h
  · obtain ⟨-, rfl⟩ := decode_fs_ok.1 hd; exact exec_decodeFontSelect_controlWrite hst h
  · obtain ⟨-, rfl⟩ := decode_rxa_ok.1 hd; exact .kept (exec_decodeReceive_keepsControl h)
  · obtain ⟨-, rfl⟩ := decode_dbIng_ok.1 hd; exact .kept (exec_decodeIngest_keepsControl h)
  · obtain ⟨-, rfl⟩ := decode_dbScan_ok.1 hd; exact exec_decodeScan_controlWrite hst hb h

theorem piece_controlWrite {s t : State} (h : fetch s = .piece (.next t)) : ControlWrite s t := by
  obtain ⟨-, -, rfl⟩ | ⟨-, rfl⟩ | ⟨-, hpad⟩ | ⟨-, -, -, rfl⟩ | ⟨-, -, -, rfl⟩ | ⟨hst, rfl⟩ := fetch_piece_next h
  · exact .kept (sendTaken_keepsControl s)
  · exact .kept ⟨rfl, rfl, rfl⟩
  · exact .kept (padAndPrint_keepsControl hpad)
  · exact .kept ⟨rfl, rfl, rfl⟩
  · exact .kept ((endOfTurn_keepsControl _).after ⟨rfl, rfl, rfl⟩)
  · exact .completion hst rfl rfl rfl

/-- Every step writes the control registers in one of the six ways. -/
theorem step_controlWrite {s t : State} (h : step s = .next t) : ControlWrite (sample s) t := by
  obtain ⟨hrst, rfl⟩ | ⟨-, f, w, i, hf, hd, hi⟩ | ⟨-, hp⟩ | ⟨-, -, rfl, -⟩ := step_next_cases h
  · exact .reset (.inl hrst) (hardwareReset_resetRegisters (sample s))
  · exact exec_fetched_controlWrite hf (by rwa [sample_cfg]) hi
  · exact piece_controlWrite hp
  · exact .kept ⟨rfl, rfl, rfl⟩

/-! ### The statements -/

/-- Before the dispatch of a cycle `phase` is `IDLE` (R22). -/
theorem Inv.phase_idle_of_host_or_sw {s : State} (h : Inv s) (hst : s.stage = .host ∨ s.stage = .sw) : s.phase = .idle := by
  have hphase := h.control.phase
  obtain hst | hst := hst <;> simpa only [hst, phaseOk, decide_eq_true_eq] using hphase

/-- Settles O53: of the writers of `phase`, the dispatch stands at a service word, where `phase` is `IDLE`, and so do the causes of a
reset other than `rst`, which therefore leave it as it was. -/
theorem phaseMovesOnlyFromAndToIdle : Obligations.PhaseMovesOnlyFromAndToIdle := by
  unfold Obligations.PhaseMovesOnlyFromAndToIdle
  intro s t hinv h hmoves
  have hw := step_controlWrite h
  cases hw with
  | reset cause registers =>
    have hbusy : ¬(s.stage = .host ∨ s.stage = .sw) := fun hst => hmoves (registers.phase.trans (hinv.phase_idle_of_host_or_sw hst).symm)
    obtain hrst | ⟨hst, -⟩ | ⟨hst, -⟩ := cause
    · exact .inr ⟨registers.phase, .inr hrst⟩
    · exact absurd (.inl (by simpa using hst)) hbusy
    · exact absurd (.inr (by simpa using hst)) hbusy
  | dispatch stage _ _ =>
    have hst : s.stage = .sw := by simpa using stage
    exact .inl ⟨hinv.phase_idle_of_host_or_sw (.inr hst), hst⟩
  | fontSelection _ phase _ => exact absurd (by simpa using phase) hmoves
  | caseCode _ _ _ _ _ phase _ => exact absurd (by simpa using phase) hmoves
  | completion stage phase _ _ => exact .inr ⟨phase, .inl (by simpa using stage)⟩
  | kept keeps => exact absurd (by simpa using keeps.phase) hmoves

/-- Settles O55: the reset, the font selection and the case codes are the writers that do not keep `font`. -/
theorem fontHasThreeWriters : Obligations.FontHasThreeWriters := by
  unfold Obligations.FontHasThreeWriters
  intro s t h hmoves
  have hw := step_controlWrite h
  cases hw with
  | reset cause registers => exact .inl ⟨registers.font, cause⟩
  | dispatch _ font _ => exact absurd (by simpa using font) hmoves
  | fontSelection stage _ _ => exact .inr (.inl (by simpa using stage))
  | caseCode b stage legacy entry selects _ _ =>
    simp only [sample_stage, sample_font, sample_cfg, readByte_line, sample_line, sample_idx] at stage legacy entry selects
    refine .inr (.inr ⟨stage, legacy, ?_⟩)
    obtain ⟨rfl, hfont⟩ | ⟨rfl, hfont⟩ := selects
    · exact .inl ⟨entry, hfont⟩
    · exact .inr ⟨entry, hfont⟩
  | completion _ _ font _ => exact absurd (by simpa using font) hmoves
  | kept keeps => exact absurd (by simpa using keeps.font) hmoves

/-- Settles O56: every writer but the reset keeps `pending_err`. -/
theorem pendingErrorIsWrittenByResetOnly : Obligations.PendingErrorIsWrittenByResetOnly := by
  unfold Obligations.PendingErrorIsWrittenByResetOnly
  intro s t h
  have hw := step_controlWrite h
  cases hw with
  | reset cause registers => exact .inr ⟨by simpa using registers.pendingErr, cause⟩
  | dispatch _ _ pendingErr => exact .inl (by simpa using pendingErr)
  | fontSelection _ _ pendingErr => exact .inl (by simpa using pendingErr)
  | caseCode _ _ _ _ _ _ pendingErr => exact .inl (by simpa using pendingErr)
  | completion _ _ _ pendingErr => exact .inl (by simpa using pendingErr)
  | kept keeps => exact .inl (by simpa using keeps.pendingErr)

/-- Settles O11, cause by cause. -/
theorem fourCausesRunTheResetRoutine : Obligations.FourCausesRunTheResetRoutine := by
  unfold Obligations.FourCausesRunTheResetRoutine
  intro s
  refine ⟨fun start => ⟨_, rfl, doReset_resetRegisters s⟩, fun u => ⟨_, rfl, busReset_resetRegisters s⟩, fun u => ?decodeError,
    fun hrst => ⟨_, step_of_rst hrst, (hardwareReset_resetRegisters (sample s)).of_cfg_eq (sample_cfg s)⟩⟩
  case decodeError =>
    simp only [List.forall_mem_cons]
    exact ⟨⟨_, rfl, decodeFailed_resetRegisters 4#3 u s⟩, ⟨_, rfl, decodeFailed_resetRegisters 5#3 u s⟩,
      ⟨_, rfl, decodeFailed_resetRegisters 6#3 u s⟩, ⟨_, rfl, decodeFailed_resetRegisters 7#3 u s⟩,
      fun i hi => absurd hi List.not_mem_nil⟩

/-- The default parameters meet the constraints of spec/00_scope.md R9, whatever the OPEN ones are. -/
theorem platform_wf : Config.platform.wf = true := by decide

/-- Settles O50: after reset the memories are empty, the line has no entry and no render is in progress. -/
theorem resetStateMeetsTheInvariant : Obligations.ResetStateMeetsTheInvariant := by
  unfold Obligations.ResetStateMeetsTheInvariant
  have hidle : State.reset.stage.rendering ≠ true := Bool.false_ne_true
  have hscan : State.reset.stage ≠ .scan := Stage.noConfusion
  exact {
    memory := ⟨reset_memories_wf .line _, reset_memories_wf .bmp _, reset_memories_wf .arg _, reset_memories_wf .xlat _,
      reset_memories_wf .lglyph _, reset_memories_wf .pglyph _⟩
    control := {
      params := platform_wf
      pending := rfl
      phase := rfl
      result := rfl
      busy := rfl
      crit := rfl
      talk := Stage.noConfusion }
    line := {
      open_len := fun _ => Nat.zero_le 47
      len := Nat.zero_le 48
      entries := fun a ha => absurd ha (Nat.not_lt_zero a)
      terminator := (absurd · hidle) }
    render := {
      full := (absurd · hidle)
      row := (absurd · hscan)
      idx := (absurd · hscan)
      eol := (absurd · hscan)
      skip := (absurd · hscan)
      rvs := (absurd · hscan) } }

end Sys2Proof.Machine
end

section
/-! What no step can do to the memory (spec/20_memory.md): the parameters and the font tables are never written, an index that does not
exist stops the machine by name, and no state that meets the invariant comes to such an index. -/
namespace Sys2Proof.Machine

/-! ### What is never written -/

/-- The parameters and the three font tables (spec/20_memory.md R56 to R58). -/
def State.constants (s : State) : Config × Memory × Memory × Memory := (s.cfg, s.xlat, s.lglyph, s.pglyph)

theorem constants_eq_iff {s t : State} : t.constants = s.constants ↔
    t.cfg = s.cfg ∧ t.xlat = s.xlat ∧ t.lglyph = s.lglyph ∧ t.pglyph = s.pglyph := by
  simp only [State.constants, Prod.mk.injEq]

theorem sample_constants (s : State) : (sample s).constants = s.constants := by
  obtain ⟨p, ts, h⟩ := sample_eq s
  rw [h]
  rfl

theorem callSend_constants (s : State) : (callSend s).constants = s.constants :=
  (congrArg State.constants (callSend_frame s) :)

theorem sendTaken_constants (s : State) : (sendTaken s).constants = s.constants := by
  obtain ⟨-, h⟩ | ⟨-, h⟩ := sendTaken_cases s <;> rw [h]
  · exact callSend_constants _
  · rfl

theorem endOfTurn_constants (s : State) : (endOfTurn s).constants = s.constants := by
  obtain ⟨-, h⟩ | ⟨-, h⟩ := endOfTurn_cases s <;> rw [h] <;> rfl

theorem flush_constants {s t : State} (h : flush s = .next t) : t.constants = s.constants := by
  obtain ⟨-, rfl⟩ := flush_next h
  rfl

theorem execIngChar_constants {b : Byte} {s t : State} (h : execIngChar b s = .next t) : t.constants = s.constants := by
  obtain ⟨-, ⟨-, hflush⟩ | ⟨-, rfl⟩⟩ := execIngChar_next h
  · exact (flush_constants hflush :)
  · exact endOfTurn_constants _

theorem advanceScan_constants (s : State) : (advanceScan s).constants = s.constants :=
  (congrArg State.constants (advanceScan_frame s) :)

theorem setCase_constants (f : Font) (s : State) : (setCase f s).constants = s.constants := by
  obtain ⟨-, h⟩ | ⟨-, h⟩ := setCase_cases f s <;> rw [h]
  rfl

theorem scanPrint_constants {b : Byte} {s t : State} (h : scanPrint b s = .next t) : t.constants = s.constants := by
  obtain ⟨-, rfl⟩ | ⟨-, -, -, rfl⟩ := scanPrint_next h
  · exact advanceScan_constants s
  · exact advanceScan_constants _

/-- The bitmap handed over is none of the constants. -/
theorem callPrintRaster_constants (bytes : List Byte) (m : Memory) (s : State) :
    (callPrintRaster bytes { s with bmp := m }).constants = s.constants := rfl

theorem padAndPrint_constants {s t : State} (h : padAndPrint s = .next t) : t.constants = s.constants := by
  obtain ⟨bytes, -, -, rfl⟩ := padAndPrint_next h
  exact callPrintRaster_constants bytes _ s

/-! ### No instruction writes the constants, format by format -/

theorem exec_decodeHost_constants {w : Nat} {s t : State} (h : exec (decodeHost w) s = .next t) : t.constants = s.constants := by
  obtain ⟨-, e⟩ | e | e := exec_decodeHost w s <;> rw [e] at h
  · cases h
    rfl
  · obtain ⟨tr, rfl, -⟩ := execHostServiceCycle_next h
    rfl
  · cases h
    rfl

theorem exec_decodeServiceWord_constants {c : Config} {w : Nat} {s t : State} (h : exec (decodeServiceWord c w) s = .next t) :
    t.constants = s.constants := by
  obtain ⟨-, e⟩ | e | ⟨-, -, res, code, e⟩ | ⟨d, k, p, -, e⟩ | ⟨k, e⟩ | ⟨k, e⟩ := exec_decodeServiceWord c w s <;>
    (rw [e] at h; cases h)
  case inr.inr.inr.inr.inl => exact callSend_constants _
  all_goals rfl

theorem exec_decodeReceive_constants {w : Nat} {s t : State} (h : exec (decodeReceive w) s = .next t) :
    t.constants = s.constants := by
  obtain ⟨b, eod, e⟩ | ⟨b, eod, e⟩ := exec_decodeReceive w s
  all_goals
    rw [e] at h
    cases h
    rfl

theorem exec_decodeIngest_constants {c : Config} {b : Byte} {s t : State} (h : exec (decodeIngest c b) s = .next t) :
    t.constants = s.constants := by
  obtain ⟨-, e⟩ | ⟨-, e⟩ := exec_decodeIngest c b s <;> rw [e] at h
  · exact flush_constants h
  · exact execIngChar_constants h

theorem exec_decodeScan_constants {c : Config} {b : Byte} {s t : State} (h : exec (decodeScan c b) s = .next t) :
    t.constants = s.constants := by
  obtain ⟨-, e⟩ | ⟨-, hcontrol⟩ := exec_decodeScan c b s
  · exact scanPrint_constants (e ▸ h)
  · obtain ⟨-, e⟩ | ⟨-, e⟩ | ⟨-, e⟩ | ⟨-, e⟩ | ⟨-, e⟩ | ⟨-, e⟩ := hcontrol <;>
      (rw [e] at h; cases h; rw [advanceScan_constants])
    case inr.inr.inr.inr.inl | inr.inr.inr.inr.inr.inl => exact setCase_constants _ _
    all_goals rfl

theorem exec_decodeFontSelect_constants {ch : Nibble} {s t : State} (h : exec (decodeFontSelect ch) s = .next t) :
    t.constants = s.constants := by
  obtain ⟨f, e⟩ := exec_decodeFontSelect ch s
  rw [e] at h
  cases h
  rfl

theorem exec_decoded_constants {c : Config} {f : Format} {w : Nat} {i : Instr} {s t : State} (hd : decode c f w = .ok i)
    (h : exec i s = .next t) : t.constants = s.constants := by
  cases f with
  | sw => obtain ⟨-, rfl⟩ := decode_sw_ok.1 hd; exact exec_decodeServiceWord_constants h
  | rxa => obtain ⟨-, rfl⟩ := decode_rxa_ok.1 hd; exact exec_decodeReceive_constants h
  | dbIng => obtain ⟨-, rfl⟩ := decode_dbIng_ok.1 hd; exact exec_decodeIngest_constants h
  | dbScan => obtain ⟨-, rfl⟩ := decode_dbScan_ok.1 hd; exact exec_decodeScan_constants h
  | fs => obtain ⟨-, rfl⟩ := decode_fs_ok.1 hd; exact exec_decodeFontSelect_constants h
  | host => obtain ⟨-, rfl⟩ := decode_host_ok.1 hd; exact exec_decodeHost_constants h

theorem piece_constants {s t : State} (h : fetch s = .piece (.next t)) : t.constants = s.constants := by
  obtain ⟨-, -, rfl⟩ | ⟨-, rfl⟩ | ⟨-, hpad⟩ | ⟨-, -, -, rfl⟩ | ⟨-, -, -, rfl⟩ | ⟨-, rfl⟩ := fetch_piece_next h
  · exact sendTaken_constants s
  · rfl
  · exact padAndPrint_constants hpad
  · rfl
  · exact endOfTurn_constants _
  · rfl

theorem step_constants {s t : State} (h : step s = .next t) : t.constants = s.constants := by
  rw [← sample_constants s]
  obtain ⟨-, rfl⟩ | ⟨-, f, w, i, -, hd, hi⟩ | ⟨-, hp⟩ | ⟨-, -, rfl, -⟩ := step_next_cases h
  · rfl
  · exact exec_decoded_constants hd hi
  · exact piece_constants hp
  · rfl

/-! ### Writes outside a buffer -/

theorem flush_of_ge {s : State} (h : 49 ≤ s.lineLen) : flush s = .fault (.indexOutOfRange .line s.lineLen) := writeLine_of_ge h _ _

theorem execIngChar_of_ge {s : State} (h : 49 ≤ s.lineLen) (b : Byte) :
    execIngChar b s = .fault (.indexOutOfRange .line s.lineLen) := writeLine_of_ge h _ _

theorem printAddr_of_column {s : State} (h : s.skip ≤ s.idx) : printAddr s = some (s.row * 48 + (s.idx - s.skip)) := by
  simp only [printAddr, columnOf, h, if_true, Option.map_some, bmpAddr, Config.cols]

/-- A printable byte with a column past the bitmap. -/
theorem scanPrint_of_ge {b : Byte} {s : State} (heol : s.eol = false) (hcol : s.skip ≤ s.idx)
    (ha : 432 ≤ s.row * 48 + (s.idx - s.skip)) :
    scanPrint b s = .fault (.indexOutOfRange .bmp (s.row * 48 + (s.idx - s.skip))) := by
  simp only [scanPrint, heol, Bool.false_eq_true, if_false, printAddr_of_column hcol]
  exact writeBmp_of_ge ha _ _

/-! ### Instructions that go on -/

theorem exec_decodeHost_goesOn (w : Nat) (s : State) : ∃ t, exec (decodeHost w) s = .next t := by
  obtain ⟨-, e⟩ | e | e := exec_decodeHost w s
  all_goals exact ⟨_, e⟩

theorem exec_decodeServiceWord_goesOn (c : Config) (w : Nat) (s : State) : ∃ t, exec (decodeServiceWord c w) s = .next t := by
  obtain ⟨-, e⟩ | e | ⟨-, -, res, code, e⟩ | ⟨d, k, p, -, e⟩ | ⟨k, e⟩ | ⟨k, e⟩ := exec_decodeServiceWord c w s
  all_goals exact ⟨_, e⟩

theorem exec_decodeReceive_goesOn (w : Nat) (s : State) : ∃ t, exec (decodeReceive w) s = .next t := by
  obtain ⟨b, eod, e⟩ | ⟨b, eod, e⟩ := exec_decodeReceive w s
  all_goals exact ⟨_, e⟩

theorem execIngChar_of_lt {s : State} (h : s.lineLen < 49) (b : Byte) : execIngChar b s =
    if s.lineLen + 1 = 48 then flush { s with line := s.line.write s.lineLen b, lineLen := s.lineLen + 1 }
    else .next (endOfTurn { s with line := s.line.write s.lineLen b, lineLen := s.lineLen + 1 }) := writeLine_of_lt h _ _

/-- With at most 47 entries there is room for a byte, and for the terminator after it (spec/42_ingest.md R155 (c)). -/
theorem execIngChar_goesOn {s : State} (h : s.lineLen ≤ 47) (b : Byte) : ∃ t, execIngChar b s = .next t := by
  rw [execIngChar_of_lt (by omega)]
  split
  · exact ⟨_, flush_of_lt (Nat.lt_succ_of_le (Nat.succ_le_succ h))⟩
  · exact ⟨_, rfl⟩

theorem exec_decodeIngest_goesOn {s : State} (h : s.lineLen ≤ 47) (c : Config) (b : Byte) :
    ∃ t, exec (decodeIngest c b) s = .next t := by
  obtain ⟨-, e⟩ | ⟨-, e⟩ := exec_decodeIngest c b s <;> rw [e]
  · exact ⟨_, flush_of_lt (by omega)⟩
  · exact execIngChar_goesOn h b

/-- In one of the eight glyph rows a printable byte of the line has a column in the bitmap. -/
theorem scanPrint_goesOn {s : State} (hcol : s.skip ≤ s.idx) (hrow : s.row < 8) (hidx : s.idx ≤ 48) (b : Byte) :
    ∃ t, scanPrint b s = .next t := by
  cases heol : s.eol with
  | true => exact ⟨_, scanPrint_eol heol⟩
  | false => exact ⟨_, scanPrint_column heol hcol (by omega)⟩

theorem exec_decodeScan_goesOn {s : State} (hcol : s.skip ≤ s.idx) (hrow : s.row < 8) (hidx : s.idx ≤ 48) (c : Config) (b : Byte) :
    ∃ t, exec (decodeScan c b) s = .next t := by
  obtain ⟨-, e⟩ | ⟨-, hcontrol⟩ := exec_decodeScan c b s
  · rw [e]
    exact scanPrint_goesOn hcol hrow hidx b
  · obtain ⟨-, e⟩ | ⟨-, e⟩ | ⟨-, e⟩ | ⟨-, e⟩ | ⟨-, e⟩ | ⟨-, e⟩ := hcontrol
    all_goals exact ⟨_, e⟩

/-! ### What the invariant says of the place where the core stands -/

/-- The invariant is not about the sampled ports, the tape and `svc_done_o`. -/
theorem Inv.sampled {s : State} (h : Inv s) : Inv (sample s) := by
  obtain ⟨p, ts, e⟩ := sample_eq s
  rw [e]
  exact ⟨{ h.memory with }, { h.control with }, { h.line with }, { h.render with }⟩

theorem skipBefore_le (c : Config) (m : Memory) (i : Nat) : skipBefore c m i ≤ i := by
  induction i with
  | zero => exact Nat.le_refl 0
  | succ i ih =>
    rw [skipBefore]
    split
    · split <;> omega
    · omega

/-- The scan stands at an entry of the line or at the terminator (spec/43_render.md R162), which both hold a byte. -/
theorem Inv.scanned_entry {s : State} (h : Inv s) (hst : s.stage = .scan) : ∃ b, s.readByte .line s.idx = some b := by
  obtain hlt | heq := Nat.lt_or_eq_of_le (h.render.idx hst)
  · obtain ⟨b, hb, -⟩ := h.line.entries s.idx hlt
    exact ⟨b, hb⟩
  · exact ⟨s.cfg.codeCr, heq ▸ h.line.terminator (by rw [hst]; rfl)⟩

theorem Inv.idx_le {s : State} (h : Inv s) (hst : s.stage = .scan) : s.idx ≤ 48 := (h.render.idx hst).trans h.line.len

/-- R171: `skip <= idx` always. -/
theorem Inv.skip_le_idx {s : State} (h : Inv s) (hst : s.stage = .scan) : s.skip ≤ s.idx :=
  h.render.skip hst ▸ skipBefore_le s.cfg s.line s.idx

/-! ### A step that goes on or stops safely -/

/-- What the core may find at its stage without stopping but by a stuck call or a broken contract. -/
inductive SafeFetch (s : State) : Fetched → Prop where
  | word {f : Format} {w : Nat} (i : Instr) (decoded : decode s.cfg f w = .ok i) (goesOn : ∃ t, exec i s = .next t) :
      SafeFetch s (.word f w)
  | piece {o : Host.Outcome State Fault Refusal} (goesOn : ∃ t, o = .next t) : SafeFetch s (.piece o)
  | brokenContract (len : Nat) : SafeFetch s (.piece (.refused (.argumentTooLong len)))
  | waiting (call : CallName) : SafeFetch s (.waiting call)

theorem SafeFetch.advance_safe {s : State} (h : SafeFetch s (fetch s)) (more : Bool) :
    (∃ t, advance more s = .next t) ∨ SafeStop (advance more s) := by
  cases hf : fetch s with
  | word f w =>
    rw [hf] at h
    cases h with
    | word i decoded goesOn =>
      rw [advance_word hf decoded]
      exact .inl goesOn
  | piece o =>
    rw [advance_piece hf]
    rw [hf] at h
    cases h with
    | piece goesOn => exact .inl goesOn
    | brokenContract len => exact .inr (.inr ⟨len, rfl⟩)
  | waiting call =>
    rw [advance_waiting hf]
    cases more with
    | true => exact .inl ⟨s, rfl⟩
    | false => exact .inr (.inl ⟨call, rfl⟩)

/-! ### The stages -/

theorem hostWord_lt (init start : Bool) : hostWord init start < 4 := by
  cases init <;> cases start <;> decide

theorem serviceWord_lt_4096 (r : Bool) (res : BitVec 3) (code : Byte) : serviceWord r res code < 4096 := by
  have h := serviceWord_false_lt res code
  cases r with
  | false => omega
  | true =>
    rw [serviceWord_true]
    omega

theorem safeFetch_serviceWord (r : Bool) (res : BitVec 3) (code : Byte) (s : State) :
    SafeFetch s (.word .sw (serviceWord r res code)) :=
  .word _ (decode_sw_ok.2 ⟨serviceWord_lt_4096 r res code, rfl⟩) (exec_decodeServiceWord_goesOn _ _ s)

theorem fetchServiceWord_safe (s : State) : SafeFetch s (fetchServiceWord s) := by
  unfold fetchServiceWord
  split_ifs
  · exact safeFetch_serviceWord true _ _ s
  · exact .waiting _
  · exact .brokenContract _
  · exact safeFetch_serviceWord false _ _ s

theorem fetchTalk_safe {s : State} (h : s.txIdx < s.cfg.idLen) : SafeFetch s (fetchTalk s) := by
  obtain ⟨b, hb⟩ := idString_at h
  simp only [fetchTalk, hb]
  split_ifs
  · exact .piece ⟨_, rfl⟩
  · exact .waiting _
  · exact .waiting _

theorem fetchPrint_safe (s : State) : SafeFetch s (fetchPrint s) := by
  unfold fetchPrint
  split_ifs
  · exact .piece ⟨_, rfl⟩
  · exact .waiting _
  · exact .piece ⟨_, rfl⟩
  · exact .waiting _

theorem fetchScan_safe {s : State} (h : Inv s) (hst : s.stage = .scan) : SafeFetch s (fetchScan s) := by
  obtain ⟨b, hb⟩ := h.scanned_entry hst
  have hidx := h.idx_le hst
  rw [fetchScan_of_byte (by omega) hb]
  exact .word _ (decode_dbScan_ok.2 ⟨b.isLt, rfl⟩) (exec_decodeScan_goesOn (h.skip_le_idx hst) (h.render.row hst) hidx _ _)

/-- In a state that meets the invariant the core finds nothing at its stage that stops it, but a stuck call or a broken contract. -/
theorem Inv.fetch_safe {s : State} (h : Inv s) : SafeFetch s (fetch s) := by
  cases hst : s.stage with
  | host =>
    rw [fetch_of_host hst]
    exact .word _ (decode_host_ok.2 ⟨hostWord_lt _ _, rfl⟩) (exec_decodeHost_goesOn _ s)
  | sw => rw [fetch_of_sw hst]; exact fetchServiceWord_safe s
  | talk => rw [fetch_of_talk hst]; exact fetchTalk_safe (h.control.talk hst)
  | fontSelect =>
    rw [fetch_of_fontSelect hst]
    obtain ⟨f, e⟩ := exec_decodeFontSelect (BitVec.ofNat 4 (chanOf s.cmdCode).toNat) s
    exact .word _ (decode_fs_ok.2 ⟨(chanOf s.cmdCode).isLt, rfl⟩) ⟨_, e⟩
  | openSession => rw [fetch_of_openSession hst]; exact .piece ⟨_, rfl⟩
  | rx =>
    rw [fetch_of_rx hst]
    split_ifs
    · exact .word _ (decode_rxa_ok.2 ⟨Laws.EncodeFits.receiveWord_lt _ _ _, rfl⟩) (exec_decodeReceive_goesOn _ s)
    · exact .waiting _
  | ingest =>
    rw [fetch_of_ingest hst]
    have hlen : s.lineLen ≤ 47 := h.line.open_len (by rw [hst]; rfl)
    exact .word _ (decode_dbIng_ok.2 ⟨s.rxByte.isLt, rfl⟩) (exec_decodeIngest_goesOn hlen _ _)
  | scan => rw [fetch_of_scan hst]; exact fetchScan_safe h hst
  | pad =>
    rw [fetch_of_pad hst]
    exact .piece (padAndPrint_of_full (h.render.full (by rw [hst]; rfl)))
  | print => rw [fetch_of_print hst]; exact fetchPrint_safe s
  | complete => rw [fetch_of_complete hst]; exact .piece ⟨_, rfl⟩

/-! ### The statements -/

/-- Settles O52: `rst` acts whatever the core is doing; else the core finds something safe at its stage. -/
theorem invariantStatesStopSafely : Obligations.InvariantStatesStopSafely := by
  unfold Obligations.InvariantStatesStopSafely
  intro s h
  cases hrst : (sample s).pins.rst with
  | true => exact .inl ⟨_, step_of_rst hrst⟩
  | false =>
    rw [step_of_running hrst]
    exact h.sampled.fetch_safe.advance_safe _

/-- Settles O54: no operation writes the constants, so the tables read as before. -/
theorem parametersAndTablesNeverChange : Obligations.ParametersAndTablesNeverChange := by
  unfold Obligations.ParametersAndTablesNeverChange
  intro s t h
  obtain ⟨hcfg, hxlat, hlglyph, hpglyph⟩ := constants_eq_iff.1 (step_constants h)
  refine ⟨hcfg, fun sp a hsp => ?_⟩
  obtain rfl | rfl | rfl := hsp
  · exact congrArg (·.read a) hxlat
  · exact congrArg (·.read a) hlglyph
  · exact congrArg (·.read a) hpglyph

/-- Settles O33: the two ingests and the four printable rows each come down to one write outside its buffer. -/
theorem indexOutsideABufferIsAFault : Obligations.IndexOutsideABufferIsAFault := by
  unfold Obligations.IndexOutsideABufferIsAFault
  intro b s
  refine ⟨fun hlen => ⟨execIngChar_of_ge hlen b, flush_of_ge hlen⟩, fun i hi heol hcol ha => ?_⟩
  have hprint : exec i s = scanPrint b s := by
    simp only [List.mem_cons, List.not_mem_nil, or_false] at hi
    obtain rfl | rfl | rfl | rfl := hi
    all_goals rfl
  rw [hprint, scanPrint_of_ge heol hcol ha]

end Sys2Proof.Machine
end

section
/-! Encoding and decoding (spec/30_encoding.md R75 to R88): the fields of a word, the verbs without a meaning, and for each format that
decoding and encoding are inverse on the well-formed instructions. -/
namespace Sys2Proof

/-! ### The constraints on the parameters -/

/-- The constraints of spec/00_scope.md R9 and log entry 19, one by one. -/
theorem Config.wf_iff {c : Config} : c.wf = true ↔
    c.controlCodes.Nodup ∧ (∀ b ∈ c.controlCodes, c.printable b = false) ∧ c.assignedVerbs.Nodup
      ∧ 255 + c.variantOffset + c.reverseOffset < 1024 := by
  simp only [Config.wf, Bool.and_eq_true, decide_eq_true_eq, List.all_eq_true, Bool.not_eq_true', and_assoc]

/-! ### The fields of a command code and of a service word -/

theorem verbOf_toNat (code : Byte) : (verbOf code).toNat = code.toNat / 16 := by
  have hcode := code.isLt
  simp only [verbOf, BitVec.toNat_ofNat]
  omega

theorem commandCode_toNat (verb low : Nibble) : (commandCode verb low).toNat = verb.toNat * 16 + low.toNat := by
  have hverb := verb.isLt
  have hlow := low.isLt
  simp only [commandCode, BitVec.toNat_ofNat]
  omega

@[simp] theorem verbOf_commandCode (verb low : Nibble) : verbOf (commandCode verb low) = verb := by
  have hlow := low.isLt
  apply BitVec.eq_of_toNat_eq
  rw [verbOf_toNat, commandCode_toNat]
  omega

@[simp] theorem chanOf_commandCode (verb low : Nibble) : chanOf (commandCode verb low) = low := by
  have hlow := low.isLt
  apply BitVec.eq_of_toNat_eq
  rw [Machine.chanOf_toNat, commandCode_toNat]
  omega

@[simp] theorem commandCode_verbOf_chanOf (code : Byte) : commandCode (verbOf code) (chanOf code) = code := by
  apply BitVec.eq_of_toNat_eq
  rw [commandCode_toNat, verbOf_toNat, Machine.chanOf_toNat]
  omega

theorem serviceWord_false_div (res : BitVec 3) (code : Byte) : serviceWord false res code / 256 = res.toNat := by
  have hcode := code.isLt
  rw [Machine.serviceWord_false]
  omega

theorem ofNat_serviceWord_false (res : BitVec 3) (code : Byte) : BitVec.ofNat 8 (serviceWord false res code) = code := by
  have hcode := code.isLt
  apply BitVec.eq_of_toNat_eq
  rw [BitVec.toNat_ofNat, Machine.serviceWord_false]
  omega

/-- A service word without bit `R` is its attention result with its code (R76). -/
theorem serviceWord_false_of_div {w : Nat} {res : BitVec 3} (hdiv : w / 256 = res.toNat) :
    serviceWord false res (BitVec.ofNat 8 w) = w := by
  rw [Machine.serviceWord_false, BitVec.toNat_ofNat]
  omega

/-! ### The verbs without a meaning (R80) -/

/-- The sixteen verb values in rising order. -/
def allVerbs : List Nibble := (List.range 16).map (BitVec.ofNat 4)

theorem allVerbs_rising : allVerbs.Pairwise fun u v => u.toNat < v.toNat := by decide

theorem mem_allVerbs (v : Nibble) : v ∈ allVerbs := by revert v; decide

/-- In a rising list as many entries lie below an entry as stand before it. -/
theorem length_filter_lt_getElem {l : List Nibble} (hl : l.Pairwise fun u v => u.toNat < v.toNat) {k : Nat} (hk : k < l.length) :
    (l.filter fun u => decide (u.toNat < l[k].toNat)).length = k := by
  induction l generalizing k with
  | nil => exact absurd hk (Nat.not_lt_zero k)
  | cons v l ih =>
    obtain ⟨hv, hl⟩ := List.pairwise_cons.1 hl
    cases k with
    | zero =>
      have hnone : ∀ u ∈ l, ¬ u.toNat < v.toNat := fun u hu => Nat.not_lt.2 (hv u hu).le
      simpa using hnone
    | succ k =>
      have hk : k < l.length := Nat.lt_of_succ_lt_succ hk
      have hbelow : v.toNat < l[k].toNat := hv _ (List.getElem_mem hk)
      simp [hbelow, ih hl hk]

theorem unassignedVerbs_rising (c : Config) : c.unassignedVerbs.Pairwise fun u v => u.toNat < v.toNat :=
  allVerbs_rising.filter _

theorem mem_unassignedVerbs {c : Config} {v : Nibble} : v ∈ c.unassignedVerbs ↔ v ∉ c.assignedVerbs := by
  have hv := mem_allVerbs v
  simp only [allVerbs] at hv
  simp [Config.unassignedVerbs, hv]

/-- Seven of the sixteen verbs have a meaning, so nine have none: as many as there are `RSVDn` rows of a direction. -/
theorem unassignedVerbs_length {c : Config} (h : c.wf = true) : c.unassignedVerbs.length = 9 := by
  obtain ⟨-, -, hverbs, -⟩ := Config.wf_iff.1 h
  have hnodup : allVerbs.Nodup := by decide
  have hassigned : (allVerbs.filter fun v => c.assignedVerbs.contains v).Perm c.assignedVerbs :=
    (List.perm_ext_iff_of_nodup (hnodup.filter _) hverbs).2 fun v => by simp [mem_allVerbs]
  have hsplit : 16 = _ + c.unassignedVerbs.length :=
    List.length_eq_length_filter_add (l := allVerbs) fun v => c.assignedVerbs.contains v
  rw [hassigned.length_eq] at hsplit
  have hseven : c.assignedVerbs.length = 7 := rfl
  omega

theorem unassignedVerb_eq_getElem {c : Config} {k : Nat} (hk : k < c.unassignedVerbs.length) :
    c.unassignedVerb k = c.unassignedVerbs[k] := List.getD_eq_getElem _ _ hk

theorem unassignedRank_unassignedVerb {c : Config} (h : c.wf = true) {k : Nat} (hk : k < 9) :
    c.unassignedRank (c.unassignedVerb k) = k := by
  have hk : k < c.unassignedVerbs.length := by rwa [unassignedVerbs_length h]
  rw [unassignedVerb_eq_getElem hk]
  exact length_filter_lt_getElem (unassignedVerbs_rising c) hk

theorem unassignedVerb_not_mem {c : Config} (h : c.wf = true) {k : Nat} (hk : k < 9) : c.unassignedVerb k ∉ c.assignedVerbs := by
  have hk : k < c.unassignedVerbs.length := by rwa [unassignedVerbs_length h]
  rw [unassignedVerb_eq_getElem hk]
  exact mem_unassignedVerbs.1 (List.getElem_mem hk)

/-- A verb without a meaning is the one of its rank. -/
theorem unassignedVerb_unassignedRank {c : Config} (h : c.wf = true) {v : Nibble} (hv : v ∉ c.assignedVerbs) :
    c.unassignedRank v < 9 ∧ c.unassignedVerb (c.unassignedRank v) = v := by
  obtain ⟨k, hk, rfl⟩ := List.getElem_of_mem (mem_unassignedVerbs.2 hv)
  rw [← unassignedVerb_eq_getElem hk, unassignedRank_unassignedVerb h (by rwa [unassignedVerbs_length h] at hk)]
  exact ⟨by rwa [unassignedVerbs_length h] at hk, rfl⟩

end Sys2Proof
end

section
/-! The service word in both directions (spec/30_encoding.md R76 to R80): for each row of a direction, what its word decodes to, and that
it is well formed and encodes to the word it is decoded from. -/
namespace Sys2Proof

/-- Instruction `i` is a well-formed one of format `f`, and `w` is its word. -/
structure Encodes (c : Config) (f : Format) (w : Nat) (i : Instr) : Prop where
  format : i.format = f
  word : encode c i = w
  wf : i.wf c = true

/-! ### Attention answers (R78) -/

/-- The row of an answer of the attention decode. -/
def answerRow (c : Config) (res : BitVec 3) (code : Byte) : Instr :=
  match res.toNat with
  | 0 => .atnIdle code
  | 1 => decodeCommand c .talk code
  | 2 => decodeCommand c .listen code
  | 3 => decodeCommand c .command code
  | 4 => .atnError code
  | 5 => .atnRsvd5 code
  | 6 => .atnRsvd6 code
  | _ => .atnRsvd7 code

theorem answerRow_res (c : Config) (d : Dir) (code : Byte) : answerRow c d.res code = decodeCommand c d code := by
  cases d <;> rfl

theorem decodeServiceWord_false (c : Config) (res : BitVec 3) (code : Byte) :
    decodeServiceWord c (serviceWord false res code) = answerRow c res code := by
  have hlt := Machine.serviceWord_false_lt res code
  rw [decodeServiceWord, if_neg (Nat.not_le.2 hlt), serviceWord_false_div, ofNat_serviceWord_false]
  rfl

theorem decode_serviceWord_false (c : Config) (res : BitVec 3) (code : Byte) :
    decode c .sw (serviceWord false res code) = .ok (answerRow c res code) :=
  Machine.decode_sw_ok.2 ⟨Laws.EncodeFits.serviceWord_lt res code, (decodeServiceWord_false c res code).symm⟩

theorem attentionResult_cases (res : BitVec 3) :
    res = 0#3 ∨ (∃ d : Dir, res = d.res) ∨ res = 4#3 ∨ res = 5#3 ∨ res = 6#3 ∨ res = 7#3 := by
  have hall : ∀ r : BitVec 3, r = 0#3 ∨ (r = Dir.talk.res ∨ r = Dir.listen.res ∨ r = Dir.command.res)
      ∨ r = 4#3 ∨ r = 5#3 ∨ r = 6#3 ∨ r = 7#3 := by decide
  refine (hall res).imp_right (Or.imp_left ?_)
  rintro (h | h | h)
  all_goals exact ⟨_, h⟩

/-! ### Decoding the word of a row -/

theorem decode_commandWord (c : Config) (d : Dir) (verb low : Nibble) :
    decode c .sw (commandWord d verb low) = .ok (decodeCommand c d (commandCode verb low)) := by
  rw [commandWord, decode_serviceWord_false, answerRow_res]

/-- The words of the verbs with a meaning decode to the rows of their direction (R80). -/
structure AssignedVerbsDecode (c : Config) (d : Dir) (low : Nibble) : Prop where
  openRow : decode c .sw (commandWord d c.verbOpen low) = .ok (openRow d low)
  closeRow : decode c .sw (commandWord d c.verbClose low) = .ok (closeRow d low)
  dataRow : decode c .sw (commandWord d c.verbData low) = .ok (dataRow d low)
  listenRow : decode c .sw (commandWord d c.verbListenLo low) = .ok (listenRow d low)
  listenHiRow : low ≠ 0xF#4 → decode c .sw (commandWord d c.verbListenHi low) = .ok (listenHiRow d low)
  unlistenRow : decode c .sw (commandWord d c.verbListenHi 0xF#4) = .ok (unlistenRow d)
  talkRow : decode c .sw (commandWord d c.verbTalkLo low) = .ok (talkRow d low)
  talkHiRow : low ≠ 0xF#4 → decode c .sw (commandWord d c.verbTalkHi low) = .ok (talkHiRow d low)
  untalkRow : decode c .sw (commandWord d c.verbTalkHi 0xF#4) = .ok (untalkRow d)

/-- The verbs with a meaning differ, so no row is hidden behind an earlier one. -/
theorem assignedVerbsDecode {c : Config} (h : c.wf = true) (d : Dir) (low : Nibble) : AssignedVerbsDecode c d low := by
  obtain ⟨-, -, hverbs, -⟩ := Config.wf_iff.1 h
  simp only [Config.assignedVerbs, List.nodup_cons, List.mem_cons, List.not_mem_nil, or_false, not_or] at hverbs
  constructor
  all_goals simp +contextual [decode_commandWord, decodeCommand, hverbs, eq_comm]

/-- The word of the `k`-th verb without a meaning decodes to the `k`-th `RSVDn` row (R116, log entry 6). -/
theorem decode_rsvdRow {c : Config} (h : c.wf = true) (d : Dir) (low : Nibble) {k : Nat} (hk : k < 9) :
    decode c .sw (commandWord d (c.unassignedVerb k) low) = .ok (rsvdRow d k low) := by
  have hnot := unassignedVerb_not_mem h hk
  simp only [Config.assignedVerbs, List.mem_cons, List.not_mem_nil, or_false, not_or] at hnot
  simp [decode_commandWord, decodeCommand, hnot, unassignedRank_unassignedVerb h hk]

/-- An instruction of the service word is given back by its word. -/
theorem decode_encode_sw {c : Config} (h : c.wf = true) {i : Instr} (hf : i.format = .sw) (hi : i.wf c = true) :
    decode c i.format (encode c i) = .ok i := by
  cases i with
  | reset u =>
    have hu := u.isLt
    have hlow : BitVec.ofNat 11 (2048 + u.toNat) = u := BitVec.eq_of_toNat_eq (by rw [BitVec.toNat_ofNat]; omega)
    refine Machine.decode_sw_ok.2 ⟨Laws.EncodeFits.reset u c, ?_⟩
    rw [encode, decodeServiceWord, if_pos (Nat.le_add_right _ _), hlow]
  | atnIdle u => exact decode_serviceWord_false c 0#3 u
  | atnError u => exact decode_serviceWord_false c 4#3 u
  | atnRsvd5 u => exact decode_serviceWord_false c 5#3 u
  | atnRsvd6 u => exact decode_serviceWord_false c 6#3 u
  | atnRsvd7 u => exact decode_serviceWord_false c 7#3 u
  | openT ch | openL ch | openC ch => exact (assignedVerbsDecode h _ ch).openRow
  | closeT ch | closeL ch | closeC ch => exact (assignedVerbsDecode h _ ch).closeRow
  | dataT ch | dataL ch | dataC ch => exact (assignedVerbsDecode h _ ch).dataRow
  | listenT dev | listenL dev | listenC dev => exact (assignedVerbsDecode h _ dev).listenRow
  | listenTHi dev | listenLHi dev | listenCHi dev => exact (assignedVerbsDecode h _ dev).listenHiRow (of_decide_eq_true hi)
  | unlistenT | unlistenL | unlistenC => exact (assignedVerbsDecode h _ 0xF#4).unlistenRow
  | talkT dev | talkL dev | talkC dev => exact (assignedVerbsDecode h _ dev).talkRow
  | talkTHi dev | talkLHi dev | talkCHi dev => exact (assignedVerbsDecode h _ dev).talkHiRow (of_decide_eq_true hi)
  | untalkT | untalkL | untalkC => exact (assignedVerbsDecode h _ 0xF#4).untalkRow
  | rsvd0T low | rsvd0L low | rsvd0C low => exact decode_rsvdRow h _ low (k := 0) (by decide)
  | rsvd1T low | rsvd1L low | rsvd1C low => exact decode_rsvdRow h _ low (k := 1) (by decide)
  | rsvd7T low | rsvd7L low | rsvd7C low => exact decode_rsvdRow h _ low (k := 2) (by decide)
  | rsvd8T low | rsvd8L low | rsvd8C low => exact decode_rsvdRow h _ low (k := 3) (by decide)
  | rsvd9T low | rsvd9L low | rsvd9C low => exact decode_rsvdRow h _ low (k := 4) (by decide)
  | rsvdAT low | rsvdAL low | rsvdAC low => exact decode_rsvdRow h _ low (k := 5) (by decide)
  | rsvdBT low | rsvdBL low | rsvdBC low => exact decode_rsvdRow h _ low (k := 6) (by decide)
  | rsvdCT low | rsvdCL low | rsvdCC low => exact decode_rsvdRow h _ low (k := 7) (by decide)
  | rsvdDT low | rsvdDL low | rsvdDC low => exact decode_rsvdRow h _ low (k := 8) (by decide)
  | _ => cases hf

/-! ### The rows encode to the words they are decoded from -/

/-- The `k`-th `RSVDn` row has the `k`-th verb without a meaning. -/
theorem rsvdRow_encodes (c : Config) (d : Dir) (low : Nibble) {k : Nat} (hk : k < 9) :
    Encodes c .sw (commandWord d (c.unassignedVerb k) low) (rsvdRow d k low) := by
  cases d
  all_goals
    interval_cases k
    all_goals exact ⟨rfl, rfl, rfl⟩

theorem decodeCommand_encodes {c : Config} (h : c.wf = true) (d : Dir) (code : Byte) :
    Encodes c .sw (serviceWord false d.res code) (decodeCommand c d code) := by
  have hword : serviceWord false d.res code = commandWord d (verbOf code) (chanOf code) := by
    rw [commandWord, commandCode_verbOf_chanOf]
  rw [hword, decodeCommand]
  generalize verbOf code = verb, chanOf code = low
  split_ifs with hopen hclose hdata hlisten hlistenHi hunlisten htalk htalkHi huntalk
  · subst hopen; cases d <;> exact ⟨rfl, rfl, rfl⟩
  · subst hclose; cases d <;> exact ⟨rfl, rfl, rfl⟩
  · subst hdata; cases d <;> exact ⟨rfl, rfl, rfl⟩
  · subst hlisten; cases d <;> exact ⟨rfl, rfl, rfl⟩
  · subst hlistenHi hunlisten; cases d <;> exact ⟨rfl, rfl, rfl⟩
  · subst hlistenHi; cases d <;> exact ⟨rfl, rfl, decide_eq_true hunlisten⟩
  · subst htalk; cases d <;> exact ⟨rfl, rfl, rfl⟩
  · subst htalkHi huntalk; cases d <;> exact ⟨rfl, rfl, rfl⟩
  · subst htalkHi; cases d <;> exact ⟨rfl, rfl, decide_eq_true huntalk⟩
  · have hnot : verb ∉ c.assignedVerbs := by
      simp only [Config.assignedVerbs, List.mem_cons, List.not_mem_nil, or_false, not_or]
      exact ⟨hopen, hclose, hdata, hlisten, hlistenHi, htalk, htalkHi⟩
    obtain ⟨hrank, hverb⟩ := unassignedVerb_unassignedRank h hnot
    have hrow := rsvdRow_encodes c d low hrank
    rwa [hverb] at hrow

theorem answerRow_encodes {c : Config} (h : c.wf = true) (res : BitVec 3) (code : Byte) :
    Encodes c .sw (serviceWord false res code) (answerRow c res code) := by
  obtain rfl | ⟨d, rfl⟩ | rfl | rfl | rfl | rfl := attentionResult_cases res
  case inr.inl =>
    rw [answerRow_res]
    exact decodeCommand_encodes h d code
  all_goals exact ⟨rfl, rfl, rfl⟩

theorem decodeServiceWord_encodes {c : Config} (h : c.wf = true) {w : Nat} (hw : w < 4096) :
    Encodes c .sw w (decodeServiceWord c w) := by
  by_cases hreset : 2048 ≤ w
  · rw [decodeServiceWord, if_pos hreset]
    refine ⟨rfl, ?_, rfl⟩
    rw [encode, BitVec.toNat_ofNat]
    omega
  · have hres : w / 256 = (BitVec.ofNat 3 (w / 256)).toNat := by rw [BitVec.toNat_ofNat]; omega
    rw [← serviceWord_false_of_div hres, decodeServiceWord_false]
    exact answerRow_encodes h _ _

end Sys2Proof
end

section
/-! The five small formats in both directions (spec/30_encoding.md R82 to R85, R88), and that decoding and encoding are inverse on the
well-formed instructions of every format. -/
namespace Sys2Proof

theorem ofNat_toNat_self {n : Nat} (b : BitVec n) : BitVec.ofNat n b.toNat = b := by
  rw [BitVec.ofNat_toNat, BitVec.setWidth_eq]

/-! ### The receive answer (R82) -/

theorem decodeReceive_receiveWord (err eod : Bool) (byte : Byte) : decodeReceive (receiveWord err eod byte) =
    if err then .rxErr eod byte else if eod then .rxLast byte else .rxMore byte := by
  have hbyte := byte.isLt
  have hlow : BitVec.ofNat 8 (receiveWord err eod byte) = byte := by
    apply BitVec.eq_of_toNat_eq
    rw [BitVec.toNat_ofNat, receiveWord]
    omega
  have herr : 512 ≤ receiveWord err eod byte ↔ err = true := by
    cases err <;> cases eod <;> simp [receiveWord] <;> omega
  have heod : receiveWord err eod byte / 256 % 2 = 1 ↔ eod = true := by
    cases err <;> cases eod <;> simp [receiveWord] <;> omega
  have hlast : err = false → (256 ≤ receiveWord err eod byte ↔ eod = true) := by
    rintro rfl
    cases eod <;> simp [receiveWord, hbyte]
  rw [decodeReceive, hlow]
  cases err with
  | true => simp [herr, heod]
  | false => simp [herr, hlast]

/-- Every number of ten bits is a receive answer. -/
theorem exists_receiveWord {w : Nat} (hw : w < 1024) : ∃ err eod byte, w = receiveWord err eod byte := by
  refine ⟨decide (512 ≤ w), decide (w / 256 % 2 = 1), BitVec.ofNat 8 w, ?_⟩
  simp only [receiveWord, BitVec.toNat_ofNat, Bool.toNat, Bool.cond_decide]
  split_ifs <;> omega

theorem decode_receiveWord (c : Config) (err eod : Bool) (byte : Byte) : decode c .rxa (receiveWord err eod byte) =
    .ok (if err then .rxErr eod byte else if eod then .rxLast byte else .rxMore byte) :=
  Machine.decode_rxa_ok.2 ⟨Laws.EncodeFits.receiveWord_lt err eod byte, (decodeReceive_receiveWord err eod byte).symm⟩

theorem decodeReceive_encodes (c : Config) {w : Nat} (hw : w < 1024) : Encodes c .rxa w (decodeReceive w) := by
  obtain ⟨err, eod, byte, rfl⟩ := exists_receiveWord hw
  rw [decodeReceive_receiveWord]
  cases err with
  | true => exact ⟨rfl, rfl, rfl⟩
  | false => cases eod <;> exact ⟨rfl, rfl, rfl⟩

/-! ### The ingest class (R83) -/

theorem decode_dbIng_toNat (c : Config) (b : Byte) : decode c .dbIng b.toNat = .ok (decodeIngest c b) :=
  Machine.decode_dbIng_ok.2 ⟨b.isLt, by rw [ofNat_toNat_self]⟩

theorem decodeIngest_encodes (c : Config) (b : Byte) : Encodes c .dbIng b.toNat (decodeIngest c b) := by
  unfold decodeIngest
  split_ifs with hcr
  · exact ⟨rfl, congrArg BitVec.toNat hcr.symm, rfl⟩
  · exact ⟨rfl, rfl, decide_eq_true hcr⟩

/-! ### The scan class (R84) -/

theorem decode_dbScan_toNat (c : Config) (b : Byte) : decode c .dbScan b.toNat = .ok (decodeScan c b) :=
  Machine.decode_dbScan_ok.2 ⟨b.isLt, by rw [ofNat_toNat_self]⟩

theorem printRow_iff {c : Config} {lo hi : Nat} {b : Byte} :
    c.printRow lo hi b = true ↔ c.printable b = true ∧ lo ≤ b.toNat ∧ b.toNat ≤ hi := by
  simp only [Config.printRow, Bool.and_eq_true, decide_eq_true_eq]

theorem ctrlRow_iff {c : Config} {lo hi : Nat} {b : Byte} :
    c.ctrlRow lo hi b = true ↔ c.printable b = false ∧ b ∉ c.controlCodes ∧ lo ≤ b.toNat ∧ b.toNat ≤ hi := by
  simp only [Config.ctrlRow, Bool.and_eq_true, decide_eq_true_eq, Bool.not_eq_true', ← Bool.not_eq_true, List.contains_iff_mem,
    and_assoc]

theorem decodeScan_of_printable {c : Config} {b : Byte} (h : c.printable b = true) : decodeScan c b = printRowOf b := by
  rw [decodeScan, if_pos h]

/-- The control codes differ and none is printable, so each has the row of its own (R9 (a), R84). -/
structure ControlCodesDecode (c : Config) : Prop where
  cr : decodeScan c c.codeCr = .scanCr
  rvsOn : decodeScan c c.codeRvsOn = .scanRvsOn
  rvsOff : decodeScan c c.codeRvsOff = .scanRvsOff
  caseLower : decodeScan c c.codeCaseLower = .scanCaseLower
  caseUpper : decodeScan c c.codeCaseUpper = .scanCaseUpper

theorem controlCodesDecode {c : Config} (h : c.wf = true) : ControlCodesDecode c := by
  obtain ⟨hcodes, hprintable, -, -⟩ := Config.wf_iff.1 h
  simp only [Config.controlCodes, List.nodup_cons, List.mem_cons, List.not_mem_nil, or_false, not_or] at hcodes
  simp only [Config.controlCodes, List.forall_mem_cons] at hprintable
  constructor
  all_goals simp [decodeScan, hprintable, hcodes, eq_comm]

theorem decodeScan_of_control {c : Config} {b : Byte} (hprintable : c.printable b = false) (hcontrol : b ∉ c.controlCodes) :
    decodeScan c b = if b.toNat < 0x80 then .scanCtrl00 b else .scanCtrl80 b := by
  simp only [Config.controlCodes, List.mem_cons, List.not_mem_nil, or_false, not_or] at hcontrol
  simp [decodeScan, hprintable, hcontrol]

/-- A byte of a `SCAN.PRINT` row is decoded by its band. -/
theorem decode_printRow {c : Config} {lo hi : Nat} {b : Byte} {i : Instr} (h : c.printRow lo hi b = true)
    (hband : lo ≤ b.toNat → b.toNat ≤ hi → printRowOf b = i) : decode c .dbScan b.toNat = .ok i := by
  obtain ⟨hprintable, hlo, hhi⟩ := printRow_iff.1 h
  rw [decode_dbScan_toNat, decodeScan_of_printable hprintable, hband hlo hhi]

/-- A byte of a `SCAN.CTRL` row is decoded by its band. -/
theorem decode_ctrlRow {c : Config} {lo hi : Nat} {b : Byte} {i : Instr} (h : c.ctrlRow lo hi b = true)
    (hband : lo ≤ b.toNat → b.toNat ≤ hi → (if b.toNat < 0x80 then Instr.scanCtrl00 b else .scanCtrl80 b) = i) :
    decode c .dbScan b.toNat = .ok i := by
  obtain ⟨hprintable, hcontrol, hlo, hhi⟩ := ctrlRow_iff.1 h
  rw [decode_dbScan_toNat, decodeScan_of_control hprintable hcontrol, hband hlo hhi]

theorem decode_encode_dbScan {c : Config} (h : c.wf = true) {i : Instr} (hf : i.format = .dbScan) (hi : i.wf c = true) :
    decode c i.format (encode c i) = .ok i := by
  have hcodes := controlCodesDecode h
  cases i with
  | scanPrint20 b => exact decode_printRow hi fun _ hhi => if_pos (by omega)
  | scanPrint40 b => exact decode_printRow hi fun hlo hhi => (if_neg (by omega)).trans (if_pos (by omega))
  | scanPrintA0 b =>
    exact decode_printRow hi fun hlo hhi => (if_neg (by omega)).trans ((if_neg (by omega)).trans (if_pos (by omega)))
  | scanPrintC0 b =>
    exact decode_printRow hi fun hlo _ => (if_neg (by omega)).trans ((if_neg (by omega)).trans (if_neg (by omega)))
  | scanCr => exact (decode_dbScan_toNat c _).trans (congrArg _ hcodes.cr)
  | scanRvsOn => exact (decode_dbScan_toNat c _).trans (congrArg _ hcodes.rvsOn)
  | scanRvsOff => exact (decode_dbScan_toNat c _).trans (congrArg _ hcodes.rvsOff)
  | scanCaseLower => exact (decode_dbScan_toNat c _).trans (congrArg _ hcodes.caseLower)
  | scanCaseUpper => exact (decode_dbScan_toNat c _).trans (congrArg _ hcodes.caseUpper)
  | scanCtrl00 b => exact decode_ctrlRow hi fun _ hhi => if_pos (by omega)
  | scanCtrl80 b => exact decode_ctrlRow hi fun hlo _ => if_neg (by omega)
  | _ => cases hf

theorem printRowOf_encodes {c : Config} {b : Byte} (h : c.printable b = true) : Encodes c .dbScan b.toNat (printRowOf b) := by
  have hb := b.isLt
  unfold printRowOf
  split_ifs
  all_goals exact ⟨rfl, rfl, printRow_iff.2 ⟨h, by omega, by omega⟩⟩

theorem decodeScan_encodes (c : Config) (b : Byte) : Encodes c .dbScan b.toNat (decodeScan c b) := by
  have hb := b.isLt
  unfold decodeScan
  split_ifs with hprintable hcr hon hoff hlower hupper hband
  · exact printRowOf_encodes hprintable
  · exact ⟨rfl, congrArg BitVec.toNat hcr.symm, rfl⟩
  · exact ⟨rfl, congrArg BitVec.toNat hon.symm, rfl⟩
  · exact ⟨rfl, congrArg BitVec.toNat hoff.symm, rfl⟩
  · exact ⟨rfl, congrArg BitVec.toNat hlower.symm, rfl⟩
  · exact ⟨rfl, congrArg BitVec.toNat hupper.symm, rfl⟩
  all_goals
    have hcontrol : b ∉ c.controlCodes := by simp [Config.controlCodes, hcr, hon, hoff, hlower, hupper]
    exact ⟨rfl, rfl, ctrlRow_iff.2 ⟨by simpa using hprintable, hcontrol, by omega, by omega⟩⟩

/-! ### The font selection (R85) -/

theorem decode_fs_toNat (c : Config) (ch : Nibble) : decode c .fs ch.toNat = .ok (decodeFontSelect ch) :=
  Machine.decode_fs_ok.2 ⟨ch.isLt, by rw [ofNat_toNat_self]⟩

theorem decodeFontSelect_of_ne {ch : Nibble} (h : ch ≠ Config.chUpper ∧ ch ≠ Config.chPc ∧ ch ≠ Config.chLower) :
    decodeFontSelect ch = .fsDefault ch := by
  simp [decodeFontSelect, h]

theorem decodeFontSelect_encodes (c : Config) (ch : Nibble) : Encodes c .fs ch.toNat (decodeFontSelect ch) := by
  unfold decodeFontSelect
  split_ifs with hupper hpc hlower
  · exact ⟨rfl, congrArg BitVec.toNat hupper.symm, rfl⟩
  · exact ⟨rfl, congrArg BitVec.toNat hpc.symm, rfl⟩
  · exact ⟨rfl, congrArg BitVec.toNat hlower.symm, rfl⟩
  · exact ⟨rfl, rfl, decide_eq_true ⟨hupper, hpc, hlower⟩⟩

/-! ### The host request (R88, R204) -/

theorem decode_hostWord (c : Config) (init start : Bool) : decode c .host (hostWord init start) =
    .ok (if init then .hostInit start else if start then .hostServiceCycle else .hostNone) := by
  refine Machine.decode_host_ok.2 ⟨Machine.hostWord_lt init start, ?_⟩
  cases init <;> cases start <;> decide

theorem decodeHost_encodes (c : Config) {w : Nat} (hw : w < 4) : Encodes c .host w (decodeHost w) := by
  interval_cases w
  all_goals exact ⟨rfl, rfl, rfl⟩

/-! ### All formats -/

/-- Encoding undoes decoding (R88). -/
theorem encodes_of_decode {c : Config} (h : c.wf = true) {f : Format} {w : Nat} {i : Instr} (hd : decode c f w = .ok i) :
    Encodes c f w i := by
  cases f with
  | sw => obtain ⟨hw, rfl⟩ := Machine.decode_sw_ok.1 hd; exact decodeServiceWord_encodes h hw
  | rxa => obtain ⟨hw, rfl⟩ := Machine.decode_rxa_ok.1 hd; exact decodeReceive_encodes c hw
  | dbIng =>
    obtain ⟨hw, rfl⟩ := Machine.decode_dbIng_ok.1 hd
    simpa [Nat.mod_eq_of_lt hw] using decodeIngest_encodes c (BitVec.ofNat 8 w)
  | dbScan =>
    obtain ⟨hw, rfl⟩ := Machine.decode_dbScan_ok.1 hd
    simpa [Nat.mod_eq_of_lt hw] using decodeScan_encodes c (BitVec.ofNat 8 w)
  | fs =>
    obtain ⟨hw, rfl⟩ := Machine.decode_fs_ok.1 hd
    simpa [Nat.mod_eq_of_lt hw] using decodeFontSelect_encodes c (BitVec.ofNat 4 w)
  | host => obtain ⟨hw, rfl⟩ := Machine.decode_host_ok.1 hd; exact decodeHost_encodes c hw

/-- Decoding undoes encoding (R75 to R88). -/
theorem decode_encode {c : Config} (h : c.wf = true) {i : Instr} (hi : i.wf c = true) : decode c i.format (encode c i) = .ok i := by
  cases hf : i.format with
  | sw => exact hf ▸ decode_encode_sw h hf hi
  | dbScan => exact hf ▸ decode_encode_dbScan h hf hi
  | rxa =>
    cases i with
    | rxMore b => exact decode_receiveWord c false false b
    | rxLast b => exact decode_receiveWord c false true b
    | rxErr eod b => exact decode_receiveWord c true eod b
    | _ => cases hf
  | dbIng =>
    cases i with
    | ingCr => exact (decode_dbIng_toNat c _).trans (congrArg _ (if_pos rfl))
    | ingChar b => exact (decode_dbIng_toNat c b).trans (congrArg _ (if_neg (of_decide_eq_true hi)))
    | _ => cases hf
  | fs =>
    cases i with
    | fsUpper | fsPc | fsLower => rfl
    | fsDefault ch => exact (decode_fs_toNat c ch).trans (congrArg _ (decodeFontSelect_of_ne (of_decide_eq_true hi)))
    | _ => cases hf
  | host =>
    cases i with
    | hostInit start => exact decode_hostWord c true start
    | hostServiceCycle => exact decode_hostWord c false true
    | hostNone => exact decode_hostWord c false false
    | _ => cases hf

/-- Decoding fails for no word of a format, and for every other number (R87). -/
theorem decode_of_lt (c : Config) {f : Format} {w : Nat} (h : w < 2 ^ f.width) : ∃ i, decode c f w = .ok i := ⟨_, if_pos h⟩

theorem decode_of_ge (c : Config) {f : Format} {w : Nat} (h : 2 ^ f.width ≤ w) : decode c f w = .error (.wordTooWide f w) :=
  if_neg (Nat.not_lt.2 h)

/-! ### The defaults (R80) -/

theorem commandWord_eq (d : Dir) (verb low : Nibble) : commandWord d verb low = d.res.toNat * 256 + verb.toNat * 16 + low.toNat := by
  rw [commandWord, Machine.serviceWord_false, commandCode_toNat, ← Nat.add_assoc]

theorem platform_unassignedVerbs :
    Config.platform.unassignedVerbs = [0x0#4, 0x1#4, 0x7#4, 0x8#4, 0x9#4, 0xA#4, 0xB#4, 0xC#4, 0xD#4] := by decide

/-- With the default parameters, in each direction, the verb `n` without a meaning decodes to the row of its rank `k`. -/
theorem platform_decode_rsvdRow (low : Nibble) {k n : Nat} (hk : k < 9) (hn : (Config.platform.unassignedVerb k).toNat = n) :
    decode Config.platform .sw (0x100 + n * 16 + low.toNat) = .ok (rsvdRowT k low)
    ∧ decode Config.platform .sw (0x200 + n * 16 + low.toNat) = .ok (rsvdRowL k low)
    ∧ decode Config.platform .sw (0x300 + n * 16 + low.toNat) = .ok (rsvdRowC k low) := by
  have hrow (d : Dir) : decode Config.platform .sw (d.res.toNat * 256 + n * 16 + low.toNat) = .ok (rsvdRow d k low) := by
    have hdecode := decode_rsvdRow Machine.platform_wf d low hk
    rwa [commandWord_eq, hn] at hdecode
  exact ⟨hrow .talk, hrow .listen, hrow .command⟩

/-! ### The statements -/

/-- Settles O1, format by format; in the service word, row by row. -/
theorem decodeGivesBackEncodedInstruction : Obligations.DecodeGivesBackEncodedInstruction := by
  unfold Obligations.DecodeGivesBackEncodedInstruction
  intro c i h hi
  exact decode_encode h hi

/-- Settles O2: each branch of a decoder is read back as the row's word and its class. -/
theorem encodeGivesBackDecodedWord : Obligations.EncodeGivesBackDecodedWord := by
  unfold Obligations.EncodeGivesBackDecodedWord
  intro c f w i h hd
  obtain ⟨hformat, hword, hwf⟩ := encodes_of_decode h hd
  exact ⟨hformat, hword, hwf⟩

/-- Settles O3: the width is all that the decoder looks at before the rows. -/
theorem everyWordOfAFormatDecodes : Obligations.EveryWordOfAFormatDecodes := by
  unfold Obligations.EveryWordOfAFormatDecodes
  intro c f w
  exact ⟨decode_of_lt c, decode_of_ge c⟩

/-- Settles O22, row by row. -/
theorem unassignedVerbsOfTheDefaults : Obligations.UnassignedVerbsOfTheDefaults := by
  unfold Obligations.UnassignedVerbsOfTheDefaults
  refine ⟨platform_unassignedVerbs, fun low => ?_⟩
  have row {k n : Nat} (hk : k < 9) (hn : (Config.platform.unassignedVerb k).toNat = n) := platform_decode_rsvdRow low hk hn
  simp only [Config.unassignedVerb, platform_unassignedVerbs] at row
  simp only [List.forall_mem_cons]
  exact ⟨row (k := 0) (by decide) rfl, row (k := 1) (by decide) rfl, row (k := 2) (by decide) rfl, row (k := 3) (by decide) rfl,
    row (k := 4) (by decide) rfl, row (k := 5) (by decide) rfl, row (k := 6) (by decide) rfl, row (k := 7) (by decide) rfl,
    row (k := 8) (by decide) rfl, fun x hx => absurd hx List.not_mem_nil⟩

end Sys2Proof
end

section
/-! Operands, fonts and prints: the widths of the glyph addresses (spec/30_encoding.md R86), the font a channel selects (R85), and which
step makes a `print_raster` call (R92). -/
namespace Sys2Proof.Machine

/-! ### Glyph addresses (R86) -/

theorem glyphIndex_le (c : Config) (font : Font) (rvs : Bool) (sc : Byte) :
    glyphIndex c font rvs sc ≤ 255 + c.variantOffset + c.reverseOffset := by
  have hsc := sc.isLt
  unfold glyphIndex
  split_ifs <;> omega

theorem lglyphAddr_toNat {gi row : Nat} (hgi : gi < 1024) (hrow : row < 8) : (lglyphAddr gi row).toNat = gi * 8 + row := by
  simp only [lglyphAddr, Config.glyphBytes, BitVec.toNat_ofNat]
  omega

theorem pglyphAddr_toNat {row : Nat} (b : Byte) (hrow : row < 8) : (pglyphAddr b row).toNat = b.toNat * 8 + row := by
  have hb := b.isLt
  simp only [pglyphAddr, Config.glyphBytes, BitVec.toNat_ofNat]
  omega

/-! ### The font of a channel (R85) -/

/-- The font that the channel of a listen command selects. -/
def fontOfChannel (ch : Nibble) : Font := if ch.toNat = 1 then .pc else if ch.toNat = 7 then .c64Lower else .c64Upper

theorem exec_decodeFontSelect_fontOfChannel (ch : Nibble) (s : State) :
    exec (decodeFontSelect ch) s = .next (selectFont (fontOfChannel ch) s) := by
  unfold decodeFontSelect
  split_ifs with hupper hpc hlower
  · subst hupper; rfl
  · subst hpc; rfl
  · subst hlower; rfl
  · have h1 : ¬ ch.toNat = 1 := fun h => hpc (BitVec.eq_of_toNat_eq h)
    have h7 : ¬ ch.toNat = 7 := fun h => hlower (BitVec.eq_of_toNat_eq h)
    rw [fontOfChannel, if_neg h1, if_neg h7]
    rfl

/-- The step of a font selection. -/
theorem step_of_fontSelect {s : State} (hst : s.stage = .fontSelect) (hrun : (sample s).pins.rst = false) :
    step s = .next (selectFont (fontOfChannel (chanOf s.cmdCode)) (sample s)) := by
  have hfetch : fetch (sample s) = .word .fs (chanOf s.cmdCode).toNat := by
    rw [fetch_of_fontSelect (by rwa [sample_stage]), sample_cmdCode]
  rw [step_of_running hrun, advance_word hfetch (decode_fs_toNat _ _), exec_decodeFontSelect_fontOfChannel]

/-! ### Who makes a print call (R92, spec/42_ingest.md R154) -/

/-- Whether an event is a `print_raster` call. -/
def Event.isPrint : Event → Bool
  | .printRaster _ _ _ => true
  | .detectReset | .decodeAttention | .send _ | .sendFinal _ | .receive | .returned _ => false

/-- The `print_raster` calls on record. -/
def State.prints (s : State) : List Event := s.trace.filter Event.isPrint

theorem prints_of_trace_eq {s t : State} (h : t.trace = s.trace) : t.prints = s.prints := congrArg (List.filter _) h

theorem prints_of_trace_append {s t : State} {es : List Event} (h : t.trace = s.trace ++ es) (hes : ∀ e ∈ es, e.isPrint = false) :
    t.prints = s.prints := by
  have hnone : es.filter Event.isPrint = [] := List.filter_eq_nil_iff.2 fun e he => by simp [hes e he]
  rw [State.prints, h, List.filter_append, hnone, List.append_nil, State.prints]

theorem prints_emit {e : Event} (s : State) (he : e.isPrint = false) : (emit e s).prints = s.prints :=
  prints_of_trace_append (emit_trace e s) (by simpa using he)

theorem callSend_prints (s : State) : (callSend s).prints = s.prints := by
  obtain ⟨-, h⟩ | ⟨b, -, -, h⟩ := callSend_cases s <;> rw [h]
  exact prints_emit s (by split_ifs <;> rfl)

theorem sendTaken_prints (s : State) : (sendTaken s).prints = s.prints := by
  obtain ⟨-, h⟩ | ⟨-, h⟩ := sendTaken_cases s <;> rw [h]
  · exact callSend_prints _
  · rfl

theorem endOfTurn_prints (s : State) : (endOfTurn s).prints = s.prints := by
  obtain ⟨-, h⟩ | ⟨-, h⟩ := endOfTurn_cases s <;> rw [h]
  · rfl
  · exact prints_emit _ rfl

theorem returnCycle_prints (oc : OutcomeCode) (s : State) : (returnCycle oc s).prints = s.prints := prints_emit _ rfl

theorem execIngChar_prints {b : Byte} {s t : State} (h : execIngChar b s = .next t) : t.prints = s.prints := by
  obtain ⟨-, ⟨-, hflush⟩ | ⟨-, rfl⟩⟩ := execIngChar_next h
  · have htrace := flush_trace hflush
    exact prints_of_trace_eq htrace
  · exact endOfTurn_prints _

theorem exec_decodeServiceWord_prints {c : Config} {w : Nat} {s t : State} (h : exec (decodeServiceWord c w) s = .next t) :
    t.prints = s.prints := by
  obtain ⟨-, e⟩ | e | ⟨-, -, res, code, e⟩ | ⟨d, k, p, -, e⟩ | ⟨k, e⟩ | ⟨k, e⟩ := exec_decodeServiceWord c w s <;>
    (rw [e] at h; cases h)
  · exact returnCycle_prints .reset (doReset s)
  · exact returnCycle_prints .idle (latchIdle s)
  · exact returnCycle_prints .error (doReset (latchError res code s))
  · rfl
  · exact callSend_prints _
  · rfl

theorem exec_decodeIngest_prints {c : Config} {b : Byte} {s t : State} (h : exec (decodeIngest c b) s = .next t) :
    t.prints = s.prints := by
  obtain ⟨-, e⟩ | ⟨-, e⟩ := exec_decodeIngest c b s <;> rw [e] at h
  · exact prints_of_trace_eq (flush_trace h)
  · exact execIngChar_prints h

theorem exec_decodeHost_prints {w : Nat} {s t : State} (h : exec (decodeHost w) s = .next t) : t.prints = s.prints := by
  obtain ⟨-, e⟩ | e | e := exec_decodeHost w s <;> rw [e] at h
  · cases h; rfl
  · obtain ⟨tr, rfl, es, htr, -, hes⟩ := execHostServiceCycle_next h
    refine prints_of_trace_append htr fun e he => ?_
    obtain rfl | rfl := hes e he <;> rfl
  · cases h; rfl

/-- No instruction prints: the call is made by a piece of the render. -/
theorem exec_decoded_prints {c : Config} {f : Format} {w : Nat} {i : Instr} {s t : State} (hd : decode c f w = .ok i)
    (h : exec i s = .next t) : t.prints = s.prints := by
  cases f with
  | sw => obtain ⟨-, rfl⟩ := decode_sw_ok.1 hd; exact exec_decodeServiceWord_prints h
  | rxa => obtain ⟨-, rfl⟩ := decode_rxa_ok.1 hd; exact prints_of_trace_eq (exec_decodeReceive_trace h)
  | dbIng => obtain ⟨-, rfl⟩ := decode_dbIng_ok.1 hd; exact exec_decodeIngest_prints h
  | dbScan => obtain ⟨-, rfl⟩ := decode_dbScan_ok.1 hd; exact prints_of_trace_eq (exec_decodeScan_trace h)
  | fs => obtain ⟨-, rfl⟩ := decode_fs_ok.1 hd; exact prints_of_trace_eq (exec_decodeFontSelect_trace h)
  | host => obtain ⟨-, rfl⟩ := decode_host_ok.1 hd; exact exec_decodeHost_prints h

theorem piece_prints {s t : State} (h : fetch s = .piece (.next t)) :
    t.prints = s.prints ∨ (s.stage = .pad ∧ padAndPrint s = .next t) := by
  obtain ⟨-, -, rfl⟩ | ⟨-, rfl⟩ | ⟨hst, hpad⟩ | ⟨-, -, -, rfl⟩ | ⟨-, -, -, rfl⟩ | ⟨-, rfl⟩ := fetch_piece_next h
  · exact .inl (sendTaken_prints s)
  · exact .inl (prints_emit _ rfl)
  · exact .inr ⟨hst, hpad⟩
  · exact .inl rfl
  · exact .inl (endOfTurn_prints _)
  · exact .inl (returnCycle_prints _ _)

/-- The hand-over at the end of a render is the only step that prints. -/
theorem step_prints {s t : State} (h : step s = .next t) :
    t.prints = s.prints ∨ (s.stage = .pad ∧ padAndPrint (sample s) = .next t) := by
  have hsample : (sample s).prints = s.prints := prints_of_trace_eq (sample_trace s)
  rw [← hsample, ← sample_stage s]
  obtain ⟨-, rfl⟩ | ⟨-, f, w, i, -, hd, hi⟩ | ⟨-, hp⟩ | ⟨-, -, rfl, -⟩ := step_next_cases h
  · exact .inl (prints_of_trace_eq (hardwareReset_trace _))
  · exact .inl (exec_decoded_prints hd hi)
  · exact piece_prints hp
  · exact .inl rfl

theorem callPrintRaster_trace (bytes : List Byte) (s : State) :
    (callPrintRaster bytes s).trace = s.trace ++ [.printRaster 384 9 bytes] := rfl

theorem callPrintRaster_bmp (bytes : List Byte) (s : State) : (callPrintRaster bytes s).bmp = s.bmp := rfl

/-- The call of the hand-over: its two numbers, and the bytes of the padded bitmap in index order. -/
theorem padAndPrint_event {s t : State} (h : padAndPrint s = .next t) :
    ∃ bytes, t.trace = s.trace ++ [.printRaster 384 9 bytes] ∧ bytes.length = 432 ∧ ∀ a, a < 432 → t.readByte .bmp a = bytes[a]? := by
  obtain ⟨bytes, hlen, hbytes, e⟩ := padAndPrint_next h
  refine ⟨bytes, ?_, hlen, fun a ha => ?_⟩
  · rw [e, callPrintRaster_trace]
  · rw [e, readByte_bmp, callPrintRaster_bmp, hbytes a ha]

/-! ### The statements -/

/-- Settles O40 from the bound that the parameters' constraints put on the two offsets (log entry 19). -/
theorem glyphAddressesFitTheirWidths : Obligations.GlyphAddressesFitTheirWidths := by
  unfold Obligations.GlyphAddressesFitTheirWidths
  intro c font rvs sc b row h hrow
  have hle := glyphIndex_le c font rvs sc
  obtain ⟨-, -, -, hbound⟩ := Config.wf_iff.1 h
  have hlt : glyphIndex c font rvs sc < 1024 := by omega
  exact ⟨hlt, lglyphAddr_toNat hlt hrow, pglyphAddr_toNat b hrow, fun hvariant hreverse => by omega⟩

/-- Settles O58: a step that prints is the hand-over, whose one event is the call. -/
theorem everyPrintIs384By9 : Obligations.EveryPrintIs384By9 := by
  unfold Obligations.EveryPrintIs384By9
  intro s t es w r bytes h htrace hmem
  obtain hprints | ⟨hst, hpad⟩ := step_prints h
  · have hnone : es.filter Event.isPrint = [] := by
      rw [State.prints, htrace, List.filter_append] at hprints
      exact List.append_right_eq_self.1 hprints
    exact absurd rfl (List.filter_eq_nil_iff.1 hnone _ hmem)
  · obtain ⟨sent, hevent, hlen, hbytes⟩ := padAndPrint_event hpad
    rw [sample_trace, htrace] at hevent
    rw [List.append_cancel_left hevent, List.mem_singleton] at hmem
    cases hmem
    exact ⟨hst, rfl, rfl, hlen, hbytes⟩

/-- Settles O27: the channel is the low half of the latched command code. -/
theorem channelDecidesTheFontOfASession : Obligations.ChannelDecidesTheFontOfASession := by
  unfold Obligations.ChannelDecidesTheFontOfASession
  intro s hst hrun
  refine ⟨_, step_of_fontSelect hst hrun, selectFont_stage _ _, ?_⟩
  rw [selectFont_font, fontOfChannel, chanOf_toNat]

end Sys2Proof.Machine
end

section
/-! The dispatch (spec/40_dispatch.md): what each row of a command leaves, the service words that decode no command, and whole service
cycles without a data phase, edge by edge. -/
namespace Sys2Proof.Machine

/-! ### Bytes that stay -/

theorem sameBytes_of_mem_eq {s t : State} (h : t.mem = s.mem) : SameBytes s t := by
  intro sp a
  rw [State.readByte, State.readByte, h]

/-- Writing `ARG` alone leaves the bytes of every other space. -/
theorem sameBytesOutside_arg_of_mem_eq {s t : State} (h : { t with arg := s.arg }.mem = s.mem) : SameBytesOutside .arg s t := by
  intro sp a hsp
  have hbytes := sameBytes_of_mem_eq h sp a
  cases sp with
  | arg => exact absurd rfl hsp
  | line | bmp | xlat | lglyph | pglyph => exact hbytes

/-! ### The dispatch of a command (R102, R104) -/

/-- `ARG` holds the driver's argument bytes up to `ARG_MAX` and no value past them (log entry 13). -/
theorem read_dispatchCommand_arg (d : Dir) (code : Byte) (p : Phase) (st : Stage) (s : State) (a : Nat) :
    (dispatchCommand d code p st s).readByte .arg a = if a < s.cfg.argMax then s.pins.atnArgs[a]? else none := by
  have harg : (dispatchCommand d code p st s).arg = Memory.ofBytes 0 (s.pins.atnArgs.take s.cfg.argMax) := rfl
  rw [readByte_arg, harg, Memory.read_ofBytes, if_pos (Nat.zero_le a), Nat.sub_zero, List.getElem?_take]

theorem dispatchCommand_dispatched (d : Dir) (code : Byte) (p : Phase) (st : Stage) (s : State) :
    Dispatched d code p st s (dispatchCommand d code p st s) where
  phase := rfl
  stage := rfl
  res := rfl
  code := rfl
  argLen := rfl
  crit := rfl
  arg := read_dispatchCommand_arg d code p st s
  bytes := sameBytesOutside_arg_of_mem_eq rfl
  rest := rfl

/-! ### What the row of each verb does, in the three directions -/

theorem exec_openRow (d : Dir) (ch : Nibble) (s : State) :
    exec (openRow d ch) s = .next (dispatchCommand d (commandCode s.cfg.verbOpen ch) .open .complete s) := by cases d <;> rfl

theorem exec_closeRow (d : Dir) (ch : Nibble) (s : State) :
    exec (closeRow d ch) s = .next (dispatchCommand d (commandCode s.cfg.verbClose ch) .close .complete s) := by cases d <;> rfl

theorem exec_dataC (ch : Nibble) (s : State) :
    exec (.dataC ch) s = .next (dispatchCommand .command (commandCode s.cfg.verbData ch) .open .complete s) := rfl

theorem exec_dataL (ch : Nibble) (s : State) :
    exec (.dataL ch) s = .next (dispatchCommand .listen (commandCode s.cfg.verbData ch) .dataListen .fontSelect s) := rfl

/-- On the command channel the open handler is invoked first; it has no effect, so every channel gives the same state (R108). -/
theorem exec_dataT (ch : Nibble) (s : State) : exec (.dataT ch) s =
    .next (callSend { dispatchCommand .talk (commandCode s.cfg.verbData ch) .dataTalk .talk s with txIdx := 0 }) := by
  simp only [exec, execDataT, openHandler, ite_self]

theorem exec_listenRow (d : Dir) (dev : Nibble) (s : State) :
    exec (listenRow d dev) s = .next (busLevel d s.cfg.verbListenLo dev s) := by cases d <;> rfl

theorem exec_listenHiRow (d : Dir) (dev : Nibble) (s : State) :
    exec (listenHiRow d dev) s = .next (busLevel d s.cfg.verbListenHi dev s) := by cases d <;> rfl

theorem exec_unlistenRow (d : Dir) (s : State) :
    exec (unlistenRow d) s = .next (busLevel d s.cfg.verbListenHi 0xF#4 s) := by cases d <;> rfl

theorem exec_talkRow (d : Dir) (dev : Nibble) (s : State) :
    exec (talkRow d dev) s = .next (busLevel d s.cfg.verbTalkLo dev s) := by cases d <;> rfl

theorem exec_talkHiRow (d : Dir) (dev : Nibble) (s : State) :
    exec (talkHiRow d dev) s = .next (busLevel d s.cfg.verbTalkHi dev s) := by cases d <;> rfl

theorem exec_untalkRow (d : Dir) (s : State) :
    exec (untalkRow d) s = .next (busLevel d s.cfg.verbTalkHi 0xF#4 s) := by cases d <;> rfl

theorem exec_rsvdRow (d : Dir) {k : Nat} (hk : k < 9) (low : Nibble) (s : State) :
    exec (rsvdRow d k low) s = .next (busLevel d (s.cfg.unassignedVerb k) low s) := by
  cases d
  all_goals
    interval_cases k
    all_goals rfl

/-- The three rows of a verb do no more than the dispatch when the row of each direction does. -/
theorem rows_dispatched {row : Dir → Instr} {code : Byte} {p : Phase} {st : Stage} {s : State}
    (h : ∀ d, exec (row d) s = .next (dispatchCommand d code p st s)) :
    ∀ x ∈ [(row .talk, Dir.talk), (row .listen, .listen), (row .command, .command)],
      ∃ t, exec x.1 s = .next t ∧ Dispatched x.2 code p st s t := by
  have hrow : ∀ d, ∃ t, exec (row d) s = .next t ∧ Dispatched d code p st s t := fun d => ⟨_, h d, dispatchCommand_dispatched ..⟩
  simp only [List.forall_mem_cons]
  exact ⟨hrow .talk, hrow .listen, hrow .command, fun x hx => absurd hx List.not_mem_nil⟩

/-- The nine rows of a direction whose verbs have no meaning, each with its rank (R116, log entry 6). -/
theorem rsvdRows_dispatched (d : Dir) (low : Nibble) (s : State) :
    ∀ x ∈ (List.range 9).map fun k => (rsvdRow d k low, k),
      ∃ t, exec x.1 s = .next t ∧ Dispatched d (commandCode (s.cfg.unassignedVerb x.2) low) .busLevel .complete s t := by
  intro x hx
  obtain ⟨k, hk, rfl⟩ := List.mem_map.1 hx
  exact ⟨_, exec_rsvdRow d (List.mem_range.1 hk) low s, dispatchCommand_dispatched ..⟩

/-- The first byte of the identification string goes out with `send_final` exactly when it is the only one (R134). -/
theorem callSend_first {s : State} (h : s.txIdx = 0) :
    callSend s = emit (if s.cfg.idTail = [] then .sendFinal s.cfg.idHead else .send s.cfg.idHead) s := by
  have hhead : s.cfg.idString[s.txIdx]? = some s.cfg.idHead := by rw [h]; rfl
  have honly : s.txIdx + 1 = s.cfg.idLen ↔ s.cfg.idTail = [] := by
    rw [h, Config.idLen, Nat.add_right_cancel_iff, eq_comm, List.length_eq_zero_iff]
  simp only [callSend, hhead, honly]

/-- A command without a data phase does no more than the dispatch, whatever its verb (R107, R110 to R116). -/
theorem exec_decodeCommand_noDataPhase {s : State} {d : Dir} {verb : Nibble} (low : Nibble) (hwf : s.cfg.wf = true)
    (hphase : verb ≠ s.cfg.verbData ∨ d = .command) :
    ∃ p, exec (decodeCommand s.cfg d (commandCode verb low)) s = .next (dispatchCommand d (commandCode verb low) p .complete s) := by
  simp only [decodeCommand, verbOf_commandCode, chanOf_commandCode]
  split_ifs with hopen hclose hdata hlo hhi hall hlo' hhi' hall'
  · exact ⟨_, hopen ▸ exec_openRow d low s⟩
  · exact ⟨_, hclose ▸ exec_closeRow d low s⟩
  · obtain rfl := hphase.resolve_left (not_not_intro hdata)
    exact ⟨_, hdata ▸ exec_dataC low s⟩
  · exact ⟨_, hlo ▸ exec_listenRow d low s⟩
  · exact ⟨_, hhi ▸ hall ▸ exec_unlistenRow d s⟩
  · exact ⟨_, hhi ▸ exec_listenHiRow d low s⟩
  · exact ⟨_, hlo' ▸ exec_talkRow d low s⟩
  · exact ⟨_, hhi' ▸ hall' ▸ exec_untalkRow d s⟩
  · exact ⟨_, hhi' ▸ exec_talkHiRow d low s⟩
  · have hnone : verb ∉ s.cfg.assignedVerbs := by
      simp only [Config.assignedVerbs, List.mem_cons, List.not_mem_nil, or_false, not_or]
      exact ⟨hopen, hclose, hdata, hlo, hhi, hlo', hhi'⟩
    obtain ⟨hrank, hverb⟩ := unassignedVerb_unassignedRank hwf hnone
    have hexec := exec_rsvdRow d hrank low s
    rw [hverb] at hexec
    exact ⟨_, hexec⟩

/-! ### The answers that decode no command -/

/-- `ERROR` and the reserved results take the one path of a failed decode (R105, R117). -/
theorem exec_failedDecodeRows (u : Byte) (s : State) :
    ∀ x ∈ [(Instr.atnError u, 4#3), (.atnRsvd5 u, 5#3), (.atnRsvd6 u, 6#3), (.atnRsvd7 u, 7#3)],
      exec x.1 s = .next (decodeFailed x.2 u s) := by
  simp only [List.forall_mem_cons]
  exact ⟨rfl, rfl, rfl, rfl, fun x hx => absurd hx List.not_mem_nil⟩

/-! ### The edges of a service cycle (R100, R101, R106) -/

/-- A service cycle has started, the reset poll, if there is a line to poll, has answered false, and `decode_attention()` is called. -/
def attentionCalled (s : State) : State :=
  { s with
    svcBusy := true, stage := .sw, pollR := false, crit := true,
    trace := s.trace ++ (if s.cfg.hasResetLine then [.detectReset] else []) ++ [.decodeAttention] }

/-- A service cycle has started and its reset poll has answered true. -/
def busResetSeen (s : State) : State :=
  { s with svcBusy := true, stage := .sw, pollR := true, trace := s.trace ++ [.detectReset] }

theorem execHostServiceCycle_of_poll_false {s : State} (h : pollReset s = false) :
    execHostServiceCycle s = .next (attentionCalled s) := by
  cases hline : s.cfg.hasResetLine <;> simp [execHostServiceCycle, callDecodeAttention, emit, attentionCalled, h, hline]

theorem execHostServiceCycle_of_poll_true {s : State} (h : pollReset s = true) :
    execHostServiceCycle s = .next (busResetSeen s) := by
  obtain ⟨hline, -⟩ := Bool.and_eq_true_iff.1 h
  simp only [execHostServiceCycle, h, hline, if_true, emit, busResetSeen]

/-- The state with the inputs `p` sampled at one edge, which leaves `rest` on the tape. -/
def State.sampled (s : State) (p : Pins) (rest : List Pins) : State := { s with pins := p, tape := rest, svcDone := false }

theorem sample_eq_sampled {s : State} {p : Pins} {rest : List Pins} (h : s.tape = p :: rest) : sample s = s.sampled p rest :=
  sample_cons h

/-- Between cycles, `svc_start_i` without `init_i` starts a service cycle (spec/44_interfaces.md R204). -/
theorem step_of_serviceRequest {s : State} {p : Pins} {rest : List Pins} (hst : s.stage = .host) (htape : s.tape = p :: rest)
    (hrst : p.rst = false) (hinit : p.init = false) (hstart : p.svcStart = true) :
    step s = execHostServiceCycle (s.sampled p rest) := by
  have hfetch : fetch (s.sampled p rest) = .word .host (hostWord p.init p.svcStart) := fetch_of_host hst
  have hdecode := decode_hostWord s.cfg p.init p.svcStart
  have hsample := sample_eq_sampled htape
  rw [hinit, hstart] at hfetch hdecode
  rw [step_of_running (by rwa [hsample]), hsample, advance_word hfetch hdecode]
  rfl

/-- With bit `R` the rest of the service word is not sampled (R101). -/
theorem decode_serviceWord_true (c : Config) (res : BitVec 3) (code : Byte) : ∃ u,
    decode c .sw (serviceWord true res code) = .ok (.reset u) := by
  have hlow := serviceWord_false_lt res code
  rw [serviceWord_true]
  exact ⟨_, decode_sw_ok.2 ⟨by omega, (if_pos (Nat.le_add_right ..)).symm⟩⟩

theorem step_of_busReset {s : State} (hst : s.stage = .sw) (hpoll : s.pollR = true) (hrun : (sample s).pins.rst = false) :
    step s = .next (takeException .busResetSignaled (sample s)) := by
  obtain ⟨u, hdecode⟩ := decode_serviceWord_true (sample s).cfg (sample s).pins.atnRes (sample s).pins.atnCode
  have hfetch := (fetch_of_sw (by rwa [sample_stage])).trans (fetchServiceWord_of_pollR (s := sample s) (by rwa [sample_pollR]))
  rw [step_of_running hrun, advance_word hfetch hdecode]
  rfl

/-- An answer with a command that has no data phase does no more than the dispatch. -/
theorem step_of_command_noDataPhase {s : State} {q : Pins} {rest : List Pins} {d : Dir} {verb low : Nibble} (hwf : s.cfg.wf = true)
    (hst : s.stage = .sw) (hpoll : s.pollR = false) (htape : s.tape = q :: rest) (hrst : q.rst = false) (hack : q.atnAck = true)
    (hres : q.atnRes = d.res) (hcode : q.atnCode = commandCode verb low) (hfits : argLenIn (s.sampled q rest) ≤ s.cfg.argMax)
    (hphase : verb ≠ s.cfg.verbData ∨ d = .command) :
    ∃ p, step s = .next (dispatchCommand d (commandCode verb low) p .complete (s.sampled q rest)) := by
  have hsample := sample_eq_sampled htape
  have hkeeps : breaksContract (s.sampled q rest) = false := breaksContract_eq_false (.inl hfits)
  have hfetch : fetch (s.sampled q rest) = .word .sw (serviceWord false q.atnRes q.atnCode) :=
    (fetch_of_sw (s := s.sampled q rest) hst).trans (fetchServiceWord_of_answer hpoll hack hkeeps)
  rw [step_of_running (by rwa [hsample]), hsample, advance_word hfetch (decode_serviceWord_false ..), hres, hcode, answerRow_res]
  exact exec_decodeCommand_noDataPhase (s := s.sampled q rest) low hwf hphase

theorem step_of_complete {s : State} (hst : s.stage = .complete) (hrun : (sample s).pins.rst = false) :
    step s = .next (completeCycle (sample s)) := by
  rw [step_of_running hrun, advance_piece (fetch_of_complete (by rwa [sample_stage]))]

theorem steps_succ {s t : State} (h : step s = .next t) (k : Nat) : steps (k + 1) s = steps k t := by
  simp only [steps, h]

/-- A core between cycles stands where a completed cycle leaves it. -/
theorem between_cycles_eq {s : State} (hst : s.stage = .host) (hphase : s.phase = .idle) (hbusy : s.svcBusy = false)
    (hcrit : s.crit = false) : { s with stage := .host, phase := .idle, svcBusy := false, crit := false } = s := by
  cases s
  cases hst
  cases hphase
  cases hbusy
  cases hcrit
  rfl

/-! ### The statements -/

/-- Settles O45: the edge of the request, the edge of the answer, which dispatches, and the edge of the completion, each with the inputs
sampled at it. -/
theorem cycleWithoutDataPhaseLeavesTheStateAsItWas : Obligations.CycleWithoutDataPhaseLeavesTheStateAsItWas := by
  unfold Obligations.CycleWithoutDataPhaseLeavesTheStateAsItWas
  intro s p0 p1 p2 rest d verb low hwf hst hphase hbusy hcrit htape hrst0 hinit hstart hpoll hrst1 hack hres hcode hfits hdata hrst2
  have hrequest := (step_of_serviceRequest hst htape hrst0 hinit hstart).trans (execHostServiceCycle_of_poll_false hpoll)
  obtain ⟨p, hanswer⟩ := step_of_command_noDataPhase (s := attentionCalled (s.sampled p0 (p1 :: p2 :: rest)))
    hwf rfl rfl rfl hrst1 hack hres hcode hfits hdata
  have hcompletion := step_of_complete (s := dispatchCommand d (commandCode verb low) p .complete
    ((attentionCalled (s.sampled p0 (p1 :: p2 :: rest))).sampled p1 (p2 :: rest))) rfl hrst2
  rw [sample_eq_sampled (rest := rest) rfl] at hcompletion
  refine ⟨_, (steps_succ hrequest 2).trans ((steps_succ hanswer 1).trans (steps_succ hcompletion 0)), ?outcome, rfl, rfl, ?trace,
    sameBytesOutside_arg_of_mem_eq rfl, ?frame⟩
  case outcome => cases d <;> rfl
  case trace => exact List.append_assoc _ [_] [_]
  case frame =>
    simp only [completeCycle, returnCycle, emit, dispatchCommand, latchCommand, State.sampled, attentionCalled]
    exact between_cycles_eq hst hphase hbusy hcrit

/-- Settles O46: the edge of the request, whose poll answers true, and the edge that takes BusResetSignaled. -/
theorem cycleWithBusResetDecodesNothing : Obligations.CycleWithBusResetDecodesNothing := by
  unfold Obligations.CycleWithBusResetDecodesNothing
  intro s p0 p1 rest hst htape hline hrst0 hinit hstart hreset hrst1
  have hpoll : pollReset (s.sampled p0 (p1 :: rest)) = true := Bool.and_eq_true_iff.2 ⟨hline, hreset⟩
  have hrequest := (step_of_serviceRequest hst htape hrst0 hinit hstart).trans (execHostServiceCycle_of_poll_true hpoll)
  have habort := step_of_busReset (s := busResetSeen (s.sampled p0 (p1 :: rest))) rfl rfl hrst1
  refine ⟨_, (steps_succ hrequest 1).trans (steps_succ habort 0), (busReset_resetRegisters _).of_cfg_eq rfl, rfl, rfl, rfl, ?trace,
    sameBytes_of_mem_eq rfl⟩
  case trace => exact List.append_assoc _ [_] [_]

/-- Settles O15: the row takes BusResetSignaled, which writes the registers of `do_reset` and returns. -/
theorem busResetAbortsToIdle : Obligations.BusResetAbortsToIdle := by
  unfold Obligations.BusResetAbortsToIdle
  intro u s
  exact ⟨_, rfl, busReset_resetRegisters s, rfl, rfl, rfl, rfl, rfl, sameBytes_of_mem_eq rfl, rfl⟩

/-- Settles O16: the row latches the result and returns. -/
theorem idleCycleChangesNothingElse : Obligations.IdleCycleChangesNothingElse := by
  unfold Obligations.IdleCycleChangesNothingElse
  intro u s
  exact ⟨_, rfl, rfl, rfl, rfl, rfl, rfl, rfl, rfl, sameBytes_of_mem_eq rfl, rfl⟩

/-- Settles O17: the four rows differ in the latched result only. -/
theorem decodeErrorAbortsToIdle : Obligations.DecodeErrorAbortsToIdle := by
  unfold Obligations.DecodeErrorAbortsToIdle
  intro u s x hx
  exact ⟨_, exec_failedDecodeRows u s x hx, decodeFailed_resetRegisters x.2 u s, rfl, rfl, rfl, rfl, rfl, rfl, rfl, rfl,
    sameBytes_of_mem_eq rfl, rfl⟩

/-- Settles O18: the open handler leaves the dispatched state. -/
theorem openHandlerCommandsOnlyDispatch : Obligations.OpenHandlerCommandsOnlyDispatch := by
  unfold Obligations.OpenHandlerCommandsOnlyDispatch
  intro ch s
  exact ⟨rows_dispatched (exec_openRow · ch s), _, exec_dataC ch s, dispatchCommand_dispatched ..⟩

/-- Settles O19: the close handler leaves the dispatched state. -/
theorem closeCommandsOnlyDispatch : Obligations.CloseCommandsOnlyDispatch := by
  unfold Obligations.CloseCommandsOnlyDispatch
  intro ch s
  exact rows_dispatched (exec_closeRow · ch s)

/-- Settles O20, verb by verb. -/
theorem busLevelVerbsTakeNoAction : Obligations.BusLevelVerbsTakeNoAction := by
  unfold Obligations.BusLevelVerbsTakeNoAction
  intro dev s
  exact ⟨rows_dispatched (exec_listenRow · dev s), rows_dispatched (exec_listenHiRow · dev s), rows_dispatched (exec_unlistenRow · s),
    rows_dispatched (exec_talkRow · dev s), rows_dispatched (exec_talkHiRow · dev s), rows_dispatched (exec_untalkRow · s)⟩

/-- Settles O21, direction by direction. -/
theorem unassignedVerbsTakeNoAction : Obligations.UnassignedVerbsTakeNoAction := by
  unfold Obligations.UnassignedVerbsTakeNoAction
  intro low s
  exact ⟨rsvdRows_dispatched .talk low s, rsvdRows_dispatched .listen low s, rsvdRows_dispatched .command low s⟩

/-- Settles O23: the dispatch, and then the call of `send` or `send_final` at position 0. -/
theorem talkCommandSendsTheFirstByte : Obligations.TalkCommandSendsTheFirstByte := by
  unfold Obligations.TalkCommandSendsTheFirstByte
  intro ch s
  refine ⟨_, (exec_dataT ch s).trans (congrArg Host.Outcome.next (callSend_first rfl)), rfl, rfl, ?_⟩
  exact dispatchCommand_dispatched .talk (commandCode s.cfg.verbData ch) .dataTalk .talk s

/-- Settles O24: the listen handler starts at the font selection. -/
theorem listenCommandStartsASession : Obligations.ListenCommandStartsASession := by
  unfold Obligations.ListenCommandStartsASession
  intro ch s
  exact ⟨_, exec_dataL ch s, dispatchCommand_dispatched ..⟩

/-- Settles O25: the outcome is read off the latched result, which sampling leaves as it was. -/
theorem completionReturnsTheDirection : Obligations.CompletionReturnsTheDirection := by
  unfold Obligations.CompletionReturnsTheDirection
  intro s hst hrun
  have hstep := step_of_complete hst hrun
  obtain ⟨p, ts, hsample⟩ := sample_eq s
  rw [hsample] at hstep
  have houtcome : ∀ r, s.cmdRes = r → outcomeOfRes s.cmdRes = outcomeOfRes r := fun r hr => congrArg outcomeOfRes hr
  exact ⟨_, hstep, rfl, rfl, rfl, rfl, houtcome 1#3, houtcome 2#3, houtcome 3#3, rfl, sameBytes_of_mem_eq rfl, rfl⟩

end Sys2Proof.Machine
end

section
/-! Sessions (spec/41_sessions.md): the rows of the font selection and of the receive answers, the start of a listen session, which
forgets the font and the line length it finds, and a talk session, byte by byte. -/
namespace Sys2Proof.Machine

/-! ### The rows of a listen session (R137, R139 to R144) -/

theorem exec_fontSelectRows (ch : Nibble) (s : State) :
    ∀ x ∈ [(Instr.fsUpper, Font.c64Upper), (.fsPc, .pc), (.fsLower, .c64Lower), (.fsDefault ch, .c64Upper)],
      exec x.1 s = .next (selectFont x.2 s) := by
  simp only [List.forall_mem_cons]
  exact ⟨rfl, rfl, rfl, rfl, fun x hx => absurd hx List.not_mem_nil⟩

/-- The rows differ in the two bits they latch and in where the loop goes on; leaving it is the transfer error's whole effect (R225). -/
theorem exec_receiveRows (b : Byte) (eod : Bool) (s : State) :
    ∀ x ∈ [(Instr.rxMore b, false, false, Stage.ingest), (.rxLast b, true, false, .ingest), (.rxErr eod b, eod, true, .complete)],
      exec x.1 s = .next { latchReceive b x.2.1 x.2.2.1 s with stage := x.2.2.2 } := by
  simp only [List.forall_mem_cons]
  exact ⟨rfl, rfl, rfl, fun x hx => absurd hx List.not_mem_nil⟩

/-! ### The start of a listen session (R137, R138) -/

theorem step_of_openSession {s : State} (hst : s.stage = .openSession) (hrun : (sample s).pins.rst = false) :
    step s = .next (openSession (sample s)) := by
  rw [step_of_running hrun, advance_piece (fetch_of_openSession (by rwa [sample_stage]))]

/-- The sampled inputs depend on the tape alone, so the font and the line length pass through sampling. -/
theorem sample_with_font_lineLen (s : State) (f : Font) (n : Nat) :
    sample { s with font := f, lineLen := n } = { sample s with font := f, lineLen := n } := by
  cases htape : s.tape <;> simp only [sample, htape]

/-- The hardware reset writes both registers (spec/10_state.md R45). -/
theorem step_of_rst_with_font_lineLen {s : State} (h : (sample s).pins.rst = true) (f : Font) (n : Nat) :
    step { s with font := f, lineLen := n } = step s := by
  have hsample := sample_with_font_lineLen s f n
  rw [step_of_rst h, step_of_rst (by rwa [hsample]), hsample]
  rfl

/-- The edge of the buffer reset: whether it resets the line or the core, the line length it found is gone. -/
theorem step_openSession_with_lineLen {s : State} (hst : s.stage = .openSession) (n : Nat) :
    step { s with lineLen := n } = step s := by
  have hsample : sample { s with lineLen := n } = { sample s with lineLen := n } := by
    simpa only [← sample_font s] using sample_with_font_lineLen s s.font n
  cases hrst : (sample s).pins.rst with
  | true => exact step_of_rst_with_font_lineLen hrst s.font n
  | false =>
    rw [step_of_openSession hst hrst, step_of_openSession (s := { s with lineLen := n }) hst (by rwa [hsample]), hsample]
    rfl

theorem steps_of_step_eq {s t : State} (h : step s = step t) (k : Nat) : steps (k + 1) s = steps (k + 1) t := by
  simp only [steps, h]

/-! ### A talk session (R134, R135) -/

/-- The calls that send the bytes `bs`: the last with `send_final`, every other with `send`. -/
def sendEvents (bs : List Byte) : List Event := bs.dropLast.map Event.send ++ (bs.getLast?.map Event.sendFinal).toList

theorem replyEvents_eq (c : Config) : replyEvents c = sendEvents c.idString := rfl

theorem sendEvents_nil : sendEvents [] = [] := rfl

/-- A byte goes out with `send_final` exactly when none follows it. -/
theorem sendEvents_cons (b : Byte) (bs : List Byte) :
    sendEvents (b :: bs) = (if bs = [] then .sendFinal b else .send b) :: sendEvents bs := by
  cases bs with
  | nil => rfl
  | cons b' bs =>
    simp only [sendEvents, List.dropLast_cons_cons, List.getLast?_cons_cons, List.map_cons, List.cons_append, reduceCtorEq, if_false]

/-- Where byte `b` of the identification string is on offer and `bs` follow it. -/
theorem position_of_drop {c : Config} {i : Nat} {b : Byte} {bs : List Byte} (h : c.idString.drop i = b :: bs) :
    c.idString[i]? = some b ∧ c.idString.drop (i + 1) = bs ∧ i + bs.length + 1 = c.idLen := by
  have hlen : c.idLen - i = bs.length + 1 := (List.length_drop (l := c.idString)).symm.trans (congrArg List.length h)
  refine ⟨?_, ?_, by omega⟩
  · rw [← List.head?_drop, h, List.head?_cons]
  · rw [← List.tail_drop, h, List.tail_cons]

theorem callSend_of_drop {s : State} {b : Byte} {bs : List Byte} (h : s.cfg.idString.drop s.txIdx = b :: bs) :
    callSend s = emit (if bs = [] then .sendFinal b else .send b) s := by
  obtain ⟨hb, -, hlen⟩ := position_of_drop h
  have hlast : s.txIdx + 1 = s.cfg.idLen ↔ bs = [] := by
    rw [← List.length_eq_zero_iff]
    omega
  simp only [callSend, hb, hlast]

/-- When the last byte has been taken the handler returns. -/
theorem sendTaken_of_lastByte {s : State} {b : Byte} (h : s.cfg.idString.drop s.txIdx = [b]) :
    sendTaken s = { s with txIdx := s.cfg.idLen, stage := .complete } := by
  obtain ⟨-, -, hlen : s.txIdx + 1 = s.cfg.idLen⟩ := position_of_drop h
  simp only [sendTaken, hlen, Nat.lt_irrefl, if_false]

/-- When any other byte has been taken the next one is sent. -/
theorem sendTaken_of_followed {s : State} {b b' : Byte} {bs : List Byte} (h : s.cfg.idString.drop s.txIdx = b :: b' :: bs) :
    sendTaken s = emit (if bs = [] then .sendFinal b' else .send b') { s with txIdx := s.txIdx + 1 } := by
  obtain ⟨-, hnext, hlen⟩ := position_of_drop h
  have hmore : s.txIdx + 1 < s.cfg.idLen := by
    rw [List.length_cons] at hlen
    omega
  exact (if_pos hmore).trans (callSend_of_drop (s := { s with txIdx := s.txIdx + 1 }) hnext)

/-- The edge at which the driver takes a byte. -/
theorem step_of_byteTaken {s : State} {b : Byte} {bs : List Byte} {p : Pins} {rest : List Pins} (hst : s.stage = .talk)
    (hbytes : s.cfg.idString.drop s.txIdx = b :: bs) (htape : s.tape = p :: rest) (hrst : p.rst = false) (hready : p.txReady = true) :
    step s = .next (sendTaken (s.sampled p rest)) := by
  obtain ⟨hb, -, -⟩ := position_of_drop hbytes
  have hsample := sample_eq_sampled htape
  have hbyte : (s.sampled p rest).cfg.idString[(s.sampled p rest).txIdx]? = some b := hb
  have htaken : (s.sampled p rest).pins.txReady = true := hready
  have hfetch : fetch (s.sampled p rest) = .piece (.next (sendTaken (s.sampled p rest))) := by
    rw [fetch_of_talk (s := s.sampled p rest) hst, fetchTalk, hbyte, htaken]
    rfl
  rw [step_of_running (by rwa [hsample]), hsample, advance_piece hfetch]

/-- Where a driver that takes every byte at once leaves the talk handler, from any position in the string: the call for the byte `b` on
offer is already recorded, the calls for `bs` follow it. -/
theorem steps_of_bytesTaken {s : State} {b : Byte} {bs : List Byte} {rest : List Pins} (hst : s.stage = .talk)
    (hbytes : s.cfg.idString.drop s.txIdx = b :: bs)
    (htape : s.tape = List.replicate (bs.length + 1) { txReady := true } ++ rest) :
    steps (bs.length + 1) s = .next { s with
      stage := .complete, txIdx := s.cfg.idLen, trace := s.trace ++ sendEvents bs,
      pins := { txReady := true }, tape := rest, svcDone := false } := by
  induction bs generalizing s b with
  | nil =>
    rw [steps_succ (step_of_byteTaken hst hbytes htape rfl rfl), sendTaken_of_lastByte (s := s.sampled _ _) hbytes, sendEvents_nil,
      List.append_nil]
    rfl
  | cons b' bs ih =>
    obtain ⟨-, hnext, -⟩ := position_of_drop hbytes
    rw [steps_succ (step_of_byteTaken hst hbytes htape rfl rfl), sendTaken_of_followed (s := s.sampled _ _) hbytes,
      sendEvents_cons, List.append_cons]
    exact ih hst hnext rfl

/-! ### The statements -/

/-- Settles O44: the dispatch calls for the first byte, and each byte taken calls for the next. -/
theorem talkSessionSendsTheIdentification : Obligations.TalkSessionSendsTheIdentification := by
  unfold Obligations.TalkSessionSendsTheIdentification
  intro ch s t rest htape hexec
  obtain rfl := Host.Outcome.next.inj ((exec_dataT ch s).symm.trans hexec)
  rw [callSend_first rfl]
  refine ⟨_, steps_of_bytesTaken (b := s.cfg.idHead) (bs := s.cfg.idTail) rfl rfl htape, rfl, ?trace, rfl, rfl, rfl,
    sameBytesOutside_arg_of_mem_eq rfl⟩
  case trace =>
    rw [replyEvents_eq, Config.idString, sendEvents_cons]
    exact List.append_assoc _ [_] _

/-- Settles O48: the font selection writes the font and the buffer reset the line length; a hardware reset at either edge writes both. -/
theorem sessionForgetsFontAndLineLength : Obligations.SessionForgetsFontAndLineLength := by
  unfold Obligations.SessionForgetsFontAndLineLength
  intro s f n hst
  cases hrst : (sample s).pins.rst with
  | true => exact steps_of_step_eq (step_of_rst_with_font_lineLen hrst f n) 1
  | false =>
    have hsample := sample_with_font_lineLen s f n
    have hselect := step_of_fontSelect (s := { s with font := f, lineLen := n }) hst (by rwa [hsample])
    rw [hsample] at hselect
    rw [steps_succ hselect, steps_succ (step_of_fontSelect hst hrst)]
    exact steps_of_step_eq (step_openSession_with_lineLen (s := selectFont (fontOfChannel (chanOf s.cmdCode)) (sample s)) rfl n) 0

/-- Settles O26, row by row. -/
theorem fontSelectionWritesTheFontOnly : Obligations.FontSelectionWritesTheFontOnly := by
  unfold Obligations.FontSelectionWritesTheFontOnly
  intro ch s x hx
  exact ⟨_, exec_fontSelectRows ch s x hx, rfl, rfl, sameBytes_of_mem_eq rfl, rfl⟩

/-- Settles O28: the buffer reset and the first call of `receive()` are one piece of the handler. -/
theorem sessionStartsWithAnEmptyLine : Obligations.SessionStartsWithAnEmptyLine := by
  unfold Obligations.SessionStartsWithAnEmptyLine
  intro s hst hrun
  have hstep := step_of_openSession hst hrun
  obtain ⟨p, ts, hsample⟩ := sample_eq s
  rw [hsample] at hstep
  exact ⟨_, hstep, rfl, rfl, rfl, rfl, sameBytes_of_mem_eq rfl, rfl⟩

/-- Settles O29, row by row. -/
theorem receiveAnswersAreLatched : Obligations.ReceiveAnswersAreLatched := by
  unfold Obligations.ReceiveAnswersAreLatched
  intro b eod s x hx
  exact ⟨_, exec_receiveRows b eod s x hx, rfl, rfl, rfl, rfl, rfl, sameBytes_of_mem_eq rfl, rfl⟩

end Sys2Proof.Machine
end

section
/-! Ingest (spec/42_ingest.md R150 to R153): one entry stored in the line, the end of a turn of the listen loop, the start of a render,
and the two rows of the ingest class put together from them. -/
namespace Sys2Proof.Machine

/-! ### A store to the line -/

theorem sameBytesBut_write_line (s : State) (a : Nat) (v : Byte) : SameBytesBut .line a s { s with line := s.line.write a v } := by
  intro sp i hout
  cases sp with
  | line => exact Memory.read_write_other s.line v (hout.resolve_left (absurd rfl))
  | bmp | arg | xlat | lglyph | pglyph => rfl

/-! ### The end of a turn (R151, spec/41_sessions.md R136) -/

theorem endOfTurn_of_eod {s : State} (h : s.rxEod = true) : endOfTurn s = { s with stage := .complete } := if_pos h

theorem endOfTurn_of_more {s : State} (h : s.rxEod = false) : endOfTurn s = callReceive s := if_neg (by simp [h])

/-- The position, the critical section and the trace are all that the end of a turn writes. -/
theorem endOfTurn_frame (s : State) : { endOfTurn s with stage := s.stage, crit := s.crit, trace := s.trace } = s := by
  obtain ⟨-, h⟩ | ⟨-, h⟩ := endOfTurn_cases s <;> simp only [h, callReceive, emit]

theorem endOfTurn_sameBytes (s : State) : SameBytes s (endOfTurn s) :=
  sameBytes_of_mem_eq (congrArg State.mem (endOfTurn_frame s) :)

theorem endOfTurn_lineLen (s : State) : (endOfTurn s).lineLen = s.lineLen := (congrArg State.lineLen (endOfTurn_frame s) :)

/-! ### The start of a render (spec/43_render.md R160, R161) -/

theorem read_beginRender_bmp (s : State) (a : Nat) :
    (beginRender s).readByte .bmp a = if a < 432 then some s.cfg.blank else none := Memory.read_fill 432 s.cfg.blank a

theorem beginRender_sameBytesOutside (s : State) : SameBytesOutside .bmp s (beginRender s) := by
  intro sp a hsp
  cases sp with
  | bmp => exact absurd rfl hsp
  | line | arg | xlat | lglyph | pglyph => rfl

/-! ### The rows of the ingest class (R151 to R153) -/

theorem execIngChar_of_ne {s : State} (hlen : s.lineLen < 49) (hne : s.lineLen ≠ 47) (b : Byte) : execIngChar b s =
    .next (endOfTurn { s with line := s.line.write s.lineLen b, lineLen := s.lineLen + 1 }) :=
  (execIngChar_of_lt hlen b).trans (if_neg fun hfull => hne (Nat.succ.inj hfull))

/-- The 48th entry is followed by the flush that a carriage return makes (R152). -/
theorem execIngChar_of_eq {s : State} (h : s.lineLen = 47) (b : Byte) : execIngChar b s =
    flush { s with line := s.line.write 47 b, lineLen := 48 } := by
  rw [execIngChar_of_lt (by omega), if_pos (by omega), h]

/-! ### The statements -/

/-- Settles O30: the byte is stored, and what the end of the turn writes leaves it and the new length. -/
theorem characterIsAppended : Obligations.CharacterIsAppended := by
  unfold Obligations.CharacterIsAppended
  intro b s hlen hne
  have hbytes := endOfTurn_sameBytes { s with line := s.line.write s.lineLen b, lineLen := s.lineLen + 1 }
  refine ⟨_, execIngChar_of_ne hlen hne b, ?entry, ?others, endOfTurn_lineLen _, fun heod => ?leave, fun hmore => ?again, ?frame⟩
  case entry => exact (hbytes .line s.lineLen).trans (Memory.read_write_same s.line s.lineLen b)
  case others => exact fun sp a hout => (hbytes sp a).trans (sameBytesBut_write_line s s.lineLen b sp a hout)
  case leave => simp only [endOfTurn_of_eod, heod, and_self]
  case again => simp only [endOfTurn_of_more, hmore, callReceive_stage, callReceive_crit, callReceive_trace, and_self]
  case frame => exact congrArg (fun t : State => { t with line := s.line, lineLen := s.lineLen }) (endOfTurn_frame _)

/-- Settles O31: two stores to the line, the byte's and the terminator's, and then the start of the render. -/
theorem fortyEighthEntryForcesAFlush : Obligations.FortyEighthEntryForcesAFlush := by
  unfold Obligations.FortyEighthEntryForcesAFlush
  intro b s h47
  have hflush := flush_of_lt (s := { s with line := s.line.write 47 b, lineLen := 48 }) (Nat.lt_succ_self 48)
  refine ⟨_, (execIngChar_of_eq h47 b).trans hflush, ?entry, Memory.read_write_same _ _ _, rfl, read_beginRender_bmp _, ?others,
    rfl, rfl, rfl, rfl, rfl, rfl, rfl⟩
  case entry => exact (Memory.read_write_other _ _ (by decide : 47 ≠ 48)).trans (Memory.read_write_same s.line 47 b)
  case others =>
    intro sp a hbmp hout
    have hentry := sameBytesBut_write_line s 47 b sp a (hout.imp_right And.left)
    have hterminator := sameBytesBut_write_line { s with line := s.line.write 47 b } 48 s.cfg.codeCr sp a (hout.imp_right And.right)
    exact (beginRender_sameBytesOutside _ sp a hbmp).trans (hterminator.trans hentry)

/-- Settles O32: one store to the line, the terminator's, and then the start of the render. -/
theorem carriageReturnStartsARender : Obligations.CarriageReturnStartsARender := by
  unfold Obligations.CarriageReturnStartsARender
  intro s hlen
  refine ⟨_, flush_of_lt hlen, Memory.read_write_same _ _ _, rfl, read_beginRender_bmp _, ?others,
    rfl, rfl, rfl, rfl, rfl, rfl, rfl⟩
  case others =>
    intro sp a hbmp hout
    exact (beginRender_sameBytesOutside _ sp a hbmp).trans (sameBytesBut_write_line s s.lineLen s.cfg.codeCr sp a hout)

end Sys2Proof.Machine
end

section
/-! The render, operation by operation (spec/43_render.md R160 to R175): the rows of the scan class, the way a scan goes on, the glyph
lookup, the hand-over of the finished bitmap and the end of its print. -/
namespace Sys2Proof.Machine

/-! ### Bytes that stay -/

theorem SameBytes.trans {s t u : State} (h : SameBytes s t) (h' : SameBytes t u) : SameBytes s u :=
  fun sp a => (h' sp a).trans (h sp a)

theorem sameBytesBut_write_bmp (s : State) (a : Nat) (v : Byte) : SameBytesBut .bmp a s { s with bmp := s.bmp.write a v } := by
  intro sp i hout
  cases sp with
  | bmp => exact Memory.read_write_other s.bmp v (hout.resolve_left (absurd rfl))
  | line | arg | xlat | lglyph | pglyph => rfl

/-- Writing `BMP` alone leaves the bytes of every other space. -/
theorem sameBytesOutside_bmp_of_mem_eq {s t : State} (h : { t with bmp := s.bmp }.mem = s.mem) : SameBytesOutside .bmp s t := by
  intro sp a hsp
  have hbytes := sameBytes_of_mem_eq h sp a
  cases sp with
  | bmp => exact absurd rfl hsp
  | line | arg | xlat | lglyph | pglyph => exact hbytes

/-! ### The way a scan goes on (R160, R162) -/

theorem advanceScan_of_entry {s : State} (h : s.idx < s.lineLen) : advanceScan s = { s with idx := s.idx + 1 } := if_pos h

theorem advanceScan_of_row {s : State} (h : s.lineLen ≤ s.idx) (hrow : s.row < 7) :
    advanceScan s = startRowScan { s with row := s.row + 1 } :=
  (if_neg (Nat.not_lt.2 h)).trans (if_pos (Nat.succ_lt_succ hrow))

theorem advanceScan_of_lastRow {s : State} (h : s.lineLen ≤ s.idx) (hrow : 7 ≤ s.row) :
    advanceScan s = { s with row := s.row + 1, stage := .pad } :=
  (if_neg (Nat.not_lt.2 h)).trans (if_neg (Nat.not_lt.2 (Nat.succ_le_succ hrow)))

theorem advanceScan_sameBytes (s : State) : SameBytes s (advanceScan s) :=
  sameBytes_of_mem_eq (congrArg State.mem (advanceScan_frame s) :)

/-- The way on does not look at the bitmap. -/
theorem advanceScan_with_bmp (s : State) (m : Memory) : advanceScan { s with bmp := m } = { advanceScan s with bmp := m } := by
  obtain ⟨hidx, h⟩ | ⟨hidx, hrow, h⟩ | ⟨hidx, hrow, h⟩ := advanceScan_cases s <;> rw [h]
  · exact advanceScan_of_entry hidx
  · exact advanceScan_of_row hidx (Nat.lt_of_succ_lt_succ hrow)
  · exact advanceScan_of_lastRow hidx (Nat.le_of_succ_le_succ hrow)

/-! ### The rows of the scan class (R163 to R172) -/

theorem exec_printRows (b : Byte) (s : State) :
    ∀ i ∈ [Instr.scanPrint20 b, .scanPrint40 b, .scanPrintA0 b, .scanPrintC0 b], exec i s = scanPrint b s := by
  simp only [List.forall_mem_cons]
  exact ⟨rfl, rfl, rfl, rfl, fun x hx => absurd hx List.not_mem_nil⟩

/-- A control code counts as skipped, has its effect, and the scan goes on. -/
theorem exec_controlRows (b : Byte) (s : State) :
    ∀ x ∈ [(Instr.scanCr, { s with skip := s.skip + 1, eol := true }), (.scanRvsOn, { s with skip := s.skip + 1, rvs := true }),
      (.scanRvsOff, { s with skip := s.skip + 1, rvs := false }), (.scanCtrl00 b, { s with skip := s.skip + 1 }),
      (.scanCtrl80 b, { s with skip := s.skip + 1 })],
      exec x.1 s = .next (advanceScan x.2) ∧ x.2.mem = s.mem := by
  simp only [List.forall_mem_cons]
  exact ⟨⟨rfl, rfl⟩, ⟨rfl, rfl⟩, ⟨rfl, rfl⟩, ⟨rfl, rfl⟩, ⟨rfl, rfl⟩, fun x hx => absurd hx List.not_mem_nil⟩

theorem exec_caseRows (s : State) : ∀ x ∈ [(Instr.scanCaseLower, Font.c64Lower), (.scanCaseUpper, .c64Upper)],
    exec x.1 s = .next (advanceScan (setCase x.2 (countSkip s))) := by
  simp only [List.forall_mem_cons]
  exact ⟨rfl, rfl, fun x hx => absurd hx List.not_mem_nil⟩

theorem setCase_of_pc {s : State} (h : s.font = .pc) (f : Font) : setCase f s = s := by
  simp only [setCase, h, Font.legacy, Bool.false_eq_true, if_false]

theorem setCase_of_ne_pc {s : State} (h : s.font ≠ .pc) (f : Font) : setCase f s = { s with font := f } := by
  obtain ⟨hpc, -⟩ | ⟨-, e⟩ := setCase_cases f s
  · exact absurd hpc h
  · exact e

theorem setCase_mem (f : Font) (s : State) : (setCase f s).mem = s.mem := by
  obtain ⟨-, h⟩ | ⟨-, h⟩ := setCase_cases f s <;> rw [h]
  rfl

/-! ### The glyph lookup (R165) -/

theorem readXlat_eq (s : State) (b : Byte) : readXlat s b = tableByte s .xlat b.toNat := by
  unfold readXlat tableByte
  cases s.readByte .xlat b.toNat <;> rfl

theorem readLglyph_eq (s : State) (a : BitVec 13) : readLglyph s a = tableByte s .lglyph a.toNat := by
  unfold readLglyph tableByte
  cases s.readByte .lglyph a.toNat <;> rfl

theorem readPglyph_eq (s : State) (a : BitVec 11) : readPglyph s a = tableByte s .pglyph a.toNat := by
  unfold readPglyph tableByte
  cases s.readByte .pglyph a.toNat <;> rfl

theorem glyphRow_pc (s : State) (rvs : Bool) (b : Byte) {row : Nat} (hrow : row < 8) :
    glyphRow s .pc rvs b row = tableByte s .pglyph (b.toNat * 8 + row) := by
  rw [glyphRow, readPglyph_eq, pglyphAddr_toNat b hrow]

/-- In a legacy font the address takes the glyph index without wrap (log entry 19). -/
theorem glyphRow_legacy {s : State} {font : Font} (hwf : s.cfg.wf = true) (hfont : font ≠ .pc) (rvs : Bool) (b : Byte) {row : Nat}
    (hrow : row < 8) :
    glyphRow s font rvs b row =
      tableByte s .lglyph (glyphIndex s.cfg font rvs (tableByte s .xlat b.toNat) * 8 + row) := by
  have hindex : glyphIndex s.cfg font rvs (tableByte s .xlat b.toNat) < 1024 := by
    have hle := glyphIndex_le s.cfg font rvs (tableByte s .xlat b.toNat)
    obtain ⟨-, -, -, hbound⟩ := Config.wf_iff.1 hwf
    omega
  cases font with
  | pc => exact absurd rfl hfont
  | c64Upper | c64Lower => rw [glyphRow, readLglyph_eq, readXlat_eq, lglyphAddr_toNat hindex hrow]

/-- The glyph lookup looks at the parameters and the tables only. -/
theorem glyphRow_of_constants {s t : State} (h : t.constants = s.constants) (font : Font) (rvs : Bool) (b : Byte) (row : Nat) :
    glyphRow t font rvs b row = glyphRow s font rvs b row := by
  obtain ⟨hcfg, hxlat, hlglyph, hpglyph⟩ := constants_eq_iff.1 h
  cases font <;>
    simp only [glyphRow, readXlat, readLglyph, readPglyph, readByte_xlat, readByte_lglyph, readByte_pglyph, hcfg, hxlat, hlglyph,
      hpglyph]

/-! ### The hand-over and the print (R173, R175, spec/44_interfaces.md R207) -/

/-- The padding row is the last 48 bytes of the bitmap. -/
theorem read_padded (m : Memory) (v : Byte) (a : Nat) :
    (m.writeRun 384 v 48).read a = if 384 ≤ a ∧ a < 432 then some v else m.read a := Memory.read_writeRun 48 m 384 v a

theorem step_of_pad {s : State} (hst : s.stage = .pad) (hrun : (sample s).pins.rst = false) : step s = padAndPrint (sample s) := by
  rw [step_of_running hrun, advance_piece (fetch_of_pad (by rwa [sample_stage]))]

theorem step_of_byteStreamed {s : State} (hst : s.stage = .print) (hrun : (sample s).pins.rst = false) (hidx : s.prIdx < 432)
    (hready : (sample s).pins.prReady = true) : step s = .next { sample s with prIdx := s.prIdx + 1 } := by
  have hmore : (sample s).prIdx < Config.bmpSize := by rwa [sample_prIdx]
  have hfetch : fetch (sample s) = .piece (.next { sample s with prIdx := (sample s).prIdx + 1 }) := by
    rw [fetch_of_print (by rwa [sample_stage]), fetchPrint, if_pos hmore, if_pos hready]
  rw [step_of_running hrun, advance_piece hfetch, sample_prIdx]

theorem step_of_printAcknowledged {s : State} (hst : s.stage = .print) (hrun : (sample s).pins.rst = false) (hidx : 432 ≤ s.prIdx)
    (hack : (sample s).pins.prAck = true) : step s = .next (printReturned (sample s)) := by
  have hall : ¬ (sample s).prIdx < Config.bmpSize := by
    rw [sample_prIdx]
    exact Nat.not_lt.2 hidx
  have hfetch : fetch (sample s) = .piece (.next (printReturned (sample s))) := by
    rw [fetch_of_print (by rwa [sample_stage]), fetchPrint, if_neg hall, if_pos hack]
  rw [step_of_running hrun, advance_piece hfetch]

/-! ### The flush (R161) -/

/-- The start of a render clears the bitmap it finds. -/
theorem flush_with_bmp (s : State) (m : Memory) : flush { s with bmp := m } = flush s := by
  by_cases h : s.lineLen < 49
  · rw [flush_of_lt h, flush_of_lt (s := { s with bmp := m }) h]
    rfl
  · rw [flush_of_ge (Nat.not_lt.1 h), flush_of_ge (s := { s with bmp := m }) (Nat.not_lt.1 h)]

/-- The 48th entry ends in the same flush (spec/42_ingest.md R152). -/
theorem execIngChar_with_bmp {s : State} (h : s.lineLen = 47) (m : Memory) (b : Byte) :
    execIngChar b { s with bmp := m } = execIngChar b s := by
  rw [execIngChar_of_eq (s := { s with bmp := m }) h, execIngChar_of_eq h]
  exact flush_with_bmp { s with line := s.line.write 47 b, lineLen := 48 } m

/-! ### The statements -/

/-- Settles O34: one store to the bitmap, which the way on neither looks at nor writes. -/
theorem printableByteStoresItsGlyphByte : Obligations.PrintableByteStoresItsGlyphByte := by
  unfold Obligations.PrintableByteStoresItsGlyphByte
  intro b s i hi heol hcol haddr
  refine ⟨_, (exec_printRows b s i hi).trans (scanPrint_column heol hcol haddr), ?glyph, ?others, ?frame⟩
  case glyph => rw [readByte_bmp, advanceScan_bmp, Memory.read_write_same]
  case others => exact fun sp a hout => (advanceScan_sameBytes _ sp a).trans (sameBytesBut_write_bmp s _ _ sp a hout)
  case frame => rw [advanceScan_with_bmp, ← advanceScan_bmp s]

/-- Settles O36, row by row. -/
theorem controlCodesSkipAndSetTheirFlag : Obligations.ControlCodesSkipAndSetTheirFlag := by
  unfold Obligations.ControlCodesSkipAndSetTheirFlag
  intro b s x hx
  obtain ⟨hexec, hmem⟩ := exec_controlRows b s x hx
  exact ⟨_, hexec, rfl, (sameBytes_of_mem_eq hmem).trans (advanceScan_sameBytes x.2)⟩

/-- Settles O37: whichever font is in force, the case code writes no memory. -/
theorem caseCodesMoveALegacyFont : Obligations.CaseCodesMoveALegacyFont := by
  unfold Obligations.CaseCodesMoveALegacyFont
  intro s x hx
  have hexec := exec_caseRows s x hx
  refine ⟨fun hpc => ?other, fun hlegacy => ?legacy, _, hexec, ?bytes⟩
  case other => rw [hexec, setCase_of_pc (s := countSkip s) hpc]; rfl
  case legacy => rw [hexec, setCase_of_ne_pc (s := countSkip s) hlegacy]; rfl
  case bytes => exact (sameBytes_of_mem_eq (setCase_mem x.2 (countSkip s))).trans (advanceScan_sameBytes _)

/-- Settles O39: the addresses the core assembles are those of the rule, since none wraps. -/
theorem glyphLookupReadsTheTables : Obligations.GlyphLookupReadsTheTables := by
  unfold Obligations.GlyphLookupReadsTheTables
  intro s rvs b row hwf hrow
  refine ⟨glyphRow_pc s rvs b hrow, ?upper, ?lower⟩
  case upper => exact glyphRow_legacy hwf (by decide) rvs b hrow
  case lower => exact glyphRow_legacy hwf (by decide) rvs b hrow

/-- Settles O41: the bytes of the call are the padded bitmap's, read in index order. -/
theorem finishedBitmapIsHandedOver : Obligations.FinishedBitmapIsHandedOver := by
  unfold Obligations.FinishedBitmapIsHandedOver
  intro s hst hrun hfull
  obtain ⟨t, ht⟩ := padAndPrint_of_full (s := sample s) fun a ha => by rw [sample_bmp]; exact hfull a ha
  have hstep := (step_of_pad hst hrun).trans ht
  obtain ⟨bytes, hlen, hbytes, rfl⟩ := padAndPrint_next ht
  obtain ⟨p, ts, hsample⟩ := sample_eq s
  rw [hsample] at hstep hbytes
  have hpadded := read_padded s.bmp s.cfg.blank
  generalize s.bmp.writeRun 384 s.cfg.blank 48 = padded at hstep hbytes hpadded
  refine ⟨_, bytes, hstep, rfl, hlen, hbytes, fun a hlo hhi => ?padding, fun a ha => ?glyphs, sameBytesOutside_bmp_of_mem_eq rfl,
    rfl, rfl, rfl⟩
  case padding => exact (hpadded a).trans (if_pos ⟨hlo, hhi⟩)
  case glyphs => exact (hpadded a).trans (if_neg fun hpad => Nat.not_lt.2 hpad.1 ha)

/-- Settles O42: the stream, and then the acknowledgement, which resets the line and ends the turn of the listen loop. -/
theorem printReturnsThenTheLineIsReset : Obligations.PrintReturnsThenTheLineIsReset := by
  unfold Obligations.PrintReturnsThenTheLineIsReset
  intro s hst hrun
  refine ⟨step_of_byteStreamed hst hrun, fun hidx hack => ?_⟩
  have hstep := step_of_printAcknowledged hst hrun hidx hack
  obtain ⟨p, ts, hsample⟩ := sample_eq s
  rw [hsample] at hstep
  refine ⟨_, hstep, endOfTurn_lineLen _, fun heod => ?leave, fun hmore => ?again, ?bytes, ?frame⟩
  case leave => simp only [printReturned, endOfTurn_of_eod, heod, and_self]
  case again =>
    simp only [printReturned, endOfTurn_of_more, hmore, callReceive_stage, callReceive_crit, callReceive_trace, and_self]
  case bytes => exact (sameBytes_of_mem_eq rfl).trans (endOfTurn_sameBytes _)
  case frame =>
    exact congrArg (fun t : State => { t with lineLen := s.lineLen, pins := s.pins, tape := s.tape, svcDone := s.svcDone })
      (endOfTurn_frame _)

/-- Settles O35: behind the latch the scan goes on and nothing else happens. -/
theorem printableByteBehindTheLatchIsDropped : Obligations.PrintableByteBehindTheLatchIsDropped := by
  unfold Obligations.PrintableByteBehindTheLatchIsDropped
  intro b s i hi heol
  exact ⟨_, (exec_printRows b s i hi).trans (scanPrint_eol heol), advanceScan_sameBytes s, rfl⟩

/-- Settles O38, one clause for each way on. -/
theorem scanVisitsEveryEntryOfEveryRow : Obligations.ScanVisitsEveryEntryOfEveryRow := by
  unfold Obligations.ScanVisitsEveryEntryOfEveryRow
  intro s
  exact ⟨advanceScan_of_entry, advanceScan_of_row, advanceScan_of_lastRow⟩

/-- Settles O49: both triggers end in a flush, and the flush clears the bitmap. -/
theorem flushForgetsTheOldBitmap : Obligations.FlushForgetsTheOldBitmap := by
  unfold Obligations.FlushForgetsTheOldBitmap
  intro s m b
  exact ⟨flush_with_bmp s m, fun h47 => execIngChar_with_bmp h47 m b⟩

end Sys2Proof.Machine
end

section
/-! The closed form of a rendered line, without the machine (spec/43_render.md R174, R176, R184): what the entries below an index
decide, the column each printable entry takes, and the byte it gives there. -/
namespace Sys2Proof.Machine

/-! ### The font in force (R168, R169, R176) -/

/-- The font in force after byte `b` of the line. -/
def fontAfter (c : Config) (b : Byte) (f : Font) : Font :=
  if f.legacy && decide (b = c.codeCaseLower) then .c64Lower
  else if f.legacy && decide (b = c.codeCaseUpper) then .c64Upper
  else f

theorem fontBefore_legacy (c : Config) (m : Memory) (f : Font) (i : Nat) : (fontBefore c m f i).legacy = f.legacy := by
  induction i with
  | zero => rfl
  | succ i ih =>
    rw [fontBefore]
    split_ifs with hlower hupper
    · exact (Bool.and_eq_true_iff.1 hlower).1.symm
    · exact (Bool.and_eq_true_iff.1 hupper).1.symm
    · exact ih

theorem fontBefore_succ {c : Config} {m : Memory} {i : Nat} {b : Byte} (h : m.read i = some b) (f : Font) :
    fontBefore c m f (i + 1) = fontAfter c b (fontBefore c m f i) := by
  simp only [fontBefore, fontAfter, fontBefore_legacy, h, Option.some.injEq]

/-- The last case code decides for every legacy start font alike, and where there is none each start font stays. -/
theorem fontBefore_alike_or_same (c : Config) (m : Memory) {f g : Font} (h : f.legacy = g.legacy) (n : Nat) :
    fontBefore c m f n = fontBefore c m g n ∨ (fontBefore c m f n = f ∧ fontBefore c m g n = g) := by
  induction n with
  | zero => exact .inr ⟨rfl, rfl⟩
  | succ i ih =>
    rw [fontBefore, fontBefore, h]
    split_ifs
    · exact .inl rfl
    · exact .inl rfl
    · exact ih

theorem fontBefore_idem (c : Config) (m : Memory) (f : Font) (n : Nat) :
    fontBefore c m (fontBefore c m f n) n = fontBefore c m f n := by
  obtain h | ⟨-, h⟩ := fontBefore_alike_or_same c m (fontBefore_legacy c m f n).symm n
  · exact h.symm
  · exact h

/-- R176: a row leaves the font with which the next row starts. -/
theorem fontBefore_rowFont (c : Config) (m : Memory) (n : Nat) (f0 : Font) (row : Nat) :
    fontBefore c m (rowFont c m n f0 row) n = rowFont c m n f0 (row + 1) := by
  rw [rowFont, rowFont, if_neg (Nat.succ_ne_zero row)]
  split
  · rfl
  · exact fontBefore_idem c m f0 n

/-! ### Reverse video and skipped entries (R163, R167, R170) -/

theorem rvsBefore_succ {c : Config} {m : Memory} {i : Nat} {b : Byte} (h : m.read i = some b) :
    rvsBefore c m (i + 1) = if b = c.codeRvsOn then true else if b = c.codeRvsOff then false else rvsBefore c m i := by
  simp only [rvsBefore, h, Option.some.injEq]

theorem skipBefore_succ {c : Config} {m : Memory} {i : Nat} {b : Byte} (h : m.read i = some b) :
    skipBefore c m (i + 1) = skipBefore c m i + if c.printable b then 0 else 1 := by
  simp only [skipBefore, h]

theorem skipBefore_succ_le (c : Config) (m : Memory) (i : Nat) : skipBefore c m (i + 1) ≤ skipBefore c m i + 1 := by
  rw [skipBefore]
  split
  · split <;> omega
  · exact Nat.le_refl _

/-! ### The columns (R171) -/

/-- The column of entry `i`, if it is printable: how many of the entries below it are. -/
def columnBefore (c : Config) (m : Memory) (i : Nat) : Nat := i - skipBefore c m i

theorem columnBefore_mono (c : Config) (m : Memory) : Monotone (columnBefore c m) :=
  monotone_nat_of_le_succ fun i => by
    have hle := skipBefore_succ_le c m i
    unfold columnBefore
    omega

/-- The entries after a printable entry stand in columns to its right. -/
theorem columnBefore_lt {c : Config} {m : Memory} {p i : Nat} {b : Byte} (hpi : p < i) (hb : m.read p = some b)
    (hprintable : c.printable b = true) : columnBefore c m p < columnBefore c m i := by
  have hskip : skipBefore c m (p + 1) = skipBefore c m p := by rw [skipBefore_succ hb, if_pos hprintable, Nat.add_zero]
  have hle := skipBefore_le c m p
  have hmono : columnBefore c m (p + 1) ≤ columnBefore c m i := columnBefore_mono c m hpi
  unfold columnBefore at hmono ⊢
  omega

/-- Whether entry `i` is the printable entry of column `col`. -/
def takesColumn (c : Config) (m : Memory) (col i : Nat) : Bool :=
  (match m.read i with
    | some b => c.printable b
    | none => false) && decide (columnBefore c m i = col)

theorem takesColumn_iff {c : Config} {m : Memory} {col i : Nat} :
    takesColumn c m col i = true ↔ (∃ b, m.read i = some b ∧ c.printable b = true) ∧ columnBefore c m i = col := by
  unfold takesColumn
  cases m.read i <;> simp

theorem takesColumn_of_byte {c : Config} {m : Memory} {i : Nat} {b : Byte} (h : m.read i = some b) (col : Nat) :
    takesColumn c m col i = (c.printable b && decide (columnBefore c m i = col)) := by
  simp only [takesColumn, h]

theorem printIndex_eq (c : Config) (m : Memory) (n col : Nat) : printIndex c m n col = (List.range n).find? (takesColumn c m col) := rfl

theorem printIndex_succ (c : Config) (m : Memory) (i col : Nat) :
    printIndex c m (i + 1) col = (printIndex c m i col).or (if takesColumn c m col i then some i else none) := by
  rw [printIndex_eq, printIndex_eq, List.range_succ, List.find?_append, List.find?_singleton]

/-- No entry below `i` takes the column of entry `i`. -/
theorem printIndex_columnBefore (c : Config) (m : Memory) (i : Nat) : printIndex c m i (columnBefore c m i) = none := by
  rw [printIndex_eq, List.find?_eq_none]
  intro p hp htakes
  obtain ⟨⟨b, hb, hprintable⟩, hcol⟩ := takesColumn_iff.1 htakes
  exact Nat.ne_of_lt (columnBefore_lt (List.mem_range.1 hp) hb hprintable) hcol

theorem printIndex_of_printable {c : Config} {m : Memory} {i : Nat} {b : Byte} (hb : m.read i = some b)
    (hprintable : c.printable b = true) (col : Nat) :
    printIndex c m (i + 1) col = if col = columnBefore c m i then some i else printIndex c m i col := by
  rw [printIndex_succ, takesColumn_of_byte hb, hprintable, Bool.true_and]
  split_ifs with htakes hcol hcol
  · rw [hcol, printIndex_columnBefore, Option.none_or]
  · exact absurd (of_decide_eq_true htakes).symm hcol
  · exact absurd (decide_eq_true hcol.symm) htakes
  · exact Option.or_none

theorem printIndex_of_control {c : Config} {m : Memory} {i : Nat} {b : Byte} (hb : m.read i = some b)
    (hcontrol : c.printable b = false) (col : Nat) : printIndex c m (i + 1) col = printIndex c m i col := by
  rw [printIndex_succ, takesColumn_of_byte hb, hcontrol, Bool.false_and, if_neg Bool.false_ne_true, Option.or_none]

/-! ### The bytes of the closed form -/

/-- The byte that entry `p` of the line of `s`, or no entry, gives in row `row` of the bitmap, for start font `f` of the row. -/
def entryGlyph (s : State) (f : Font) (row : Nat) : Option Nat → Byte
  | none => s.cfg.blank
  | some p =>
    match s.line.read p with
    | none => s.cfg.blank
    | some b => glyphRow s (fontBefore s.cfg s.line f p) (rvsBefore s.cfg s.line p) b row

theorem entryGlyph_of_byte {s : State} {p : Nat} {b : Byte} (h : s.line.read p = some b) (f : Font) (row : Nat) :
    entryGlyph s f row (some p) = glyphRow s (fontBefore s.cfg s.line f p) (rvsBefore s.cfg s.line p) b row := by
  simp only [entryGlyph, h]

theorem closedForm_of_lt {row : Nat} (h : row < 8) (s : State) (n : Nat) (f0 : Font) (col : Nat) :
    closedForm s n f0 row col = entryGlyph s (rowFont s.cfg s.line n f0 row) row (printIndex s.cfg s.line n col) := by
  refine (if_pos h).trans ?_
  cases printIndex s.cfg s.line n col <;> rfl

theorem closedForm_of_ge {row : Nat} (h : 8 ≤ row) (s : State) (n : Nat) (f0 : Font) (col : Nat) :
    closedForm s n f0 row col = s.cfg.blank := if_neg (Nat.not_lt.2 h)

end Sys2Proof.Machine
end

section
/-! The eight row scans of a render (spec/43_render.md R160 to R177), which keep the bitmap in step with the closed form (R184), entry
by entry. -/
namespace Sys2Proof.Machine

/-! ### One entry of the line in the machine (R163 to R172) -/

/-- What the scan of byte `b` writes, before it goes on. -/
def scanEntry (b : Byte) (s : State) : State :=
  { s with
    skip := s.skip + if s.cfg.printable b then 0 else 1
    rvs := if b = s.cfg.codeRvsOn then true else if b = s.cfg.codeRvsOff then false else s.rvs
    font := fontAfter s.cfg b s.font
    bmp := if s.cfg.printable b then s.bmp.write (s.row * 48 + (s.idx - s.skip)) (glyphRow s s.font s.rvs b s.row) else s.bmp }

@[simp] theorem scanEntry_idx (b : Byte) (s : State) : (scanEntry b s).idx = s.idx := rfl

/-- A byte that is no control code leaves the font and reverse video. -/
theorem scanEntry_of_no_code {b : Byte} {s : State} (h : b ∉ s.cfg.controlCodes) : scanEntry b s =
    { s with
      skip := s.skip + if s.cfg.printable b then 0 else 1
      bmp := if s.cfg.printable b then s.bmp.write (s.row * 48 + (s.idx - s.skip)) (glyphRow s s.font s.rvs b s.row)
        else s.bmp } := by
  simp only [Config.controlCodes, List.mem_cons, List.not_mem_nil, or_false, not_or] at h
  simp [scanEntry, fontAfter, h]

theorem setCase_eq (f : Font) (s : State) : setCase f s = { s with font := if s.font.legacy then f else s.font } := by
  unfold setCase
  split <;> rfl

/-- The byte of an entry, whatever its row of the scan class: the rows' effects put together. The five codes differ and none is
printable (spec/00_scope.md R9 (a)), so no byte has two effects. -/
theorem exec_decodeScan_entry {b : Byte} {s : State} (hwf : s.cfg.wf = true) (heol : s.eol = false) (hcol : s.skip ≤ s.idx)
    (haddr : s.row * 48 + (s.idx - s.skip) < 432) (hcr : b ≠ s.cfg.codeCr) :
    exec (decodeScan s.cfg b) s = .next (advanceScan (scanEntry b s)) := by
  obtain ⟨hcodes, hunprintable, -, -⟩ := Config.wf_iff.1 hwf
  simp only [Config.controlCodes, List.nodup_cons, List.mem_cons, List.not_mem_nil, or_false, not_or] at hcodes
  obtain ⟨-, ⟨honOff, honLower, honUpper⟩, ⟨hoffLower, hoffUpper⟩, hlowerUpper, -⟩ := hcodes
  obtain ⟨hprintable, e⟩ | ⟨hprintable, hcontrol⟩ := exec_decodeScan s.cfg b s
  · have hno : b ∉ s.cfg.controlCodes := fun hmem => Bool.false_ne_true ((hunprintable b hmem).symm.trans hprintable)
    rw [e, scanPrint_column heol hcol haddr, scanEntry_of_no_code hno]
    simp only [hprintable, if_true, Nat.add_zero]
  · obtain ⟨rfl, e⟩ | ⟨rfl, e⟩ | ⟨rfl, e⟩ | ⟨rfl, e⟩ | ⟨rfl, e⟩ | ⟨hno, e⟩ := hcontrol <;> rw [e]
    case inl => exact absurd rfl hcr
    case inr.inl => simp [scanEntry, fontAfter, setRvs, countSkip, hprintable, honLower, honUpper]
    case inr.inr.inl => simp [scanEntry, fontAfter, setRvs, countSkip, hprintable, Ne.symm honOff, hoffLower, hoffUpper]
    case inr.inr.inr.inl =>
      simp [scanEntry, fontAfter, setCase_eq, countSkip, hprintable, Ne.symm honLower, Ne.symm hoffLower, hlowerUpper]
    case inr.inr.inr.inr.inl =>
      simp [scanEntry, fontAfter, setCase_eq, countSkip, hprintable, Ne.symm honUpper, Ne.symm hoffUpper, Ne.symm hlowerUpper]
    case inr.inr.inr.inr.inr => simp [scanEntry_of_no_code hno, countSkip, hprintable]

theorem exec_decodeScan_cr {s : State} (hwf : s.cfg.wf = true) :
    exec (decodeScan s.cfg s.cfg.codeCr) s = .next (advanceScan (latchEol (countSkip s))) := by
  rw [(controlCodesDecode hwf).cr]
  rfl

theorem step_of_scan {s : State} {b : Byte} (hst : s.stage = .scan) (hrun : (sample s).pins.rst = false) (hidx : s.idx < 49)
    (hb : s.line.read s.idx = some b) : step s = exec (decodeScan (sample s).cfg b) (sample s) := by
  have hread : (sample s).readByte .line (sample s).idx = some b := by rwa [readByte_line, sample_line, sample_idx]
  have hfetch := (fetch_of_scan (by rwa [sample_stage])).trans (fetchScan_of_byte (by rwa [sample_idx]) hread)
  rw [step_of_running hrun, advance_word hfetch (decode_dbScan_toNat _ b)]

theorem steps_add {s t : State} {j : Nat} (h : steps j s = .next t) (k : Nat) : steps (j + k) s = steps k t := by
  induction j generalizing s with
  | zero =>
    obtain rfl := Host.Outcome.next.inj h
    rw [Nat.zero_add]
  | succ j ih =>
    cases hs : step s with
    | next u =>
      rw [steps_succ hs] at h
      rw [Nat.add_right_comm, steps_succ hs, ih h]
    | fault f => simp only [steps, hs] at h; cases h
    | refused r => simp only [steps, hs] at h; cases h

/-! ### The state of a render (R160 to R172) -/

/-- The line of `s` is closed and can be rendered (spec/42_ingest.md R155, R160). -/
structure LineClosed (s : State) : Prop where
  params : s.cfg.wf = true
  len : s.lineLen ≤ 48
  entries : ∀ a, a < s.lineLen → ∃ b, s.line.read a = some b ∧ b ≠ s.cfg.codeCr
  terminator : s.line.read s.lineLen = some s.cfg.codeCr

/-- How many entries of a line of `n` have been scanned for row `r`, where the scan stands at entry `i` of row `row`. -/
def entriesScanned (n row i r : Nat) : Nat := if r < row then n else if r = row then i else 0

/-- What every step of the render of the line of `s` keeps, where the scan stands at entry `i` of row `row`: the line and the tables
are as they were, no sample on the tape asks for a hardware reset, and the bitmap shows, row by row, the entries scanned so far. -/
structure Rendered (s : State) (row i : Nat) (t : State) : Prop where
  line : t.line = s.line
  lineLen : t.lineLen = s.lineLen
  constants : t.constants = s.constants
  calm : ∀ p ∈ t.tape, p.rst = false
  bitmap : ∀ r col, r < 9 → col < 48 → t.bmp.read (r * 48 + col) =
    some (entryGlyph s (rowFont s.cfg s.line s.lineLen s.font r) r
      (printIndex s.cfg s.line (entriesScanned s.lineLen row i r) col))

/-- The scan registers at entry `i` of row `row` of the render of the line of `s` (R162, R176, R177). -/
structure Scanning (s : State) (row i : Nat) (t : State) : Prop extends Rendered s row i t where
  stage : t.stage = .scan
  row_eq : t.row = row
  idx : t.idx = i
  eol : t.eol = false
  rvs : t.rvs = rvsBefore s.cfg s.line i
  skip : t.skip = skipBefore s.cfg s.line i
  font : t.font = fontBefore s.cfg s.line (rowFont s.cfg s.line s.lineLen s.font row) i

theorem Rendered.cfg {s t : State} {row i : Nat} (h : Rendered s row i t) : t.cfg = s.cfg := (constants_eq_iff.1 h.constants).1

/-- Before the first entry of row 0 the bitmap is as the clear left it (R161). -/
theorem Scanning.start {s : State} (hst : s.stage = .scan) (hrow : s.row = 0) (hidx : s.idx = 0) (heol : s.eol = false)
    (hrvs : s.rvs = false) (hskip : s.skip = 0) (hclear : ∀ a, a < 432 → s.bmp.read a = some s.cfg.blank)
    (hcalm : ∀ p ∈ s.tape, p.rst = false) : Scanning s 0 0 s where
  line := rfl
  lineLen := rfl
  constants := rfl
  calm := hcalm
  bitmap r col hr hcol := by
    have hnone : entriesScanned s.lineLen 0 0 r = 0 := by simp [entriesScanned]
    rw [hclear _ (by omega), hnone]
    rfl
  stage := hst
  row_eq := hrow
  idx := hidx
  eol := heol
  rvs := hrvs
  skip := hskip
  font := rfl

/-- Sampling an edge without `rst` leaves the scan where it is. -/
theorem Scanning.sampled {s t : State} {row i : Nat} (h : Scanning s row i t) :
    Scanning s row i (sample t) ∧ (sample t).pins.rst = false := by
  have hcalm := h.calm
  cases htape : t.tape with
  | nil =>
    rw [sample_nil htape]
    exact ⟨{ h with }, rfl⟩
  | cons p rest =>
    rw [htape, List.forall_mem_cons] at hcalm
    rw [sample_cons htape]
    exact ⟨{ h with calm := hcalm.2 }, hcalm.1⟩

/-- A printable entry stores its byte of the closed form in its column. -/
theorem Scanning.scanEntry_bmp {s t : State} {row i : Nat} {b : Byte} (h : Scanning s row i t) (hb : s.line.read i = some b) :
    (scanEntry b t).bmp =
      if s.cfg.printable b then
        t.bmp.write (row * 48 + columnBefore s.cfg s.line i)
          (entryGlyph s (rowFont s.cfg s.line s.lineLen s.font row) row (some i))
      else t.bmp := by
  rw [entryGlyph_of_byte hb, ← glyphRow_of_constants h.constants, columnBefore, ← h.rvs, ← h.skip, ← h.font, ← h.cfg]
  simp only [scanEntry, h.row_eq, h.idx]

/-- The bitmap shows one entry more in its row, and the other rows stay. -/
theorem Scanning.rendered_entry {s t : State} {row i : Nat} {b : Byte} (h : Scanning s row i t) (hi : i < 48)
    (hb : s.line.read i = some b) : Rendered s row (i + 1) { scanEntry b t with idx := i + 1 } where
  line := h.line
  lineLen := h.lineLen
  constants := h.constants
  calm := h.calm
  bitmap r col hr hcol := by
    have hbefore := h.bitmap r col hr hcol
    have hcolumn : columnBefore s.cfg s.line i < 48 := Nat.lt_of_le_of_lt (Nat.sub_le _ _) hi
    rw [h.scanEntry_bmp hb]
    by_cases hrow : r = row
    · subst hrow
      simp only [entriesScanned, Nat.lt_irrefl, if_false, if_true] at hbefore ⊢
      cases hprintable : s.cfg.printable b with
      | false => rw [printIndex_of_control hb hprintable, if_neg Bool.false_ne_true, hbefore]
      | true =>
        have haddr : r * 48 + col = r * 48 + columnBefore s.cfg s.line i ↔ col = columnBefore s.cfg s.line i := by omega
        rw [printIndex_of_printable hb hprintable, if_pos rfl, Memory.read_write, hbefore]
        simp only [haddr]
        split <;> rfl
    · have hscanned : entriesScanned s.lineLen row (i + 1) r = entriesScanned s.lineLen row i r := by
        simp only [entriesScanned, hrow, if_false]
      rw [hscanned, ← hbefore]
      split
      · exact Memory.read_write_other _ _ (by omega)
      · rfl

/-- A step of a scan takes the byte of its entry. -/
theorem Scanning.step_eq {s t : State} {row i : Nat} {b : Byte} (h : Scanning s row i t) (hi : i < 49) (hb : s.line.read i = some b) :
    ∃ u, Scanning s row i u ∧ step t = exec (decodeScan u.cfg b) u := by
  obtain ⟨hsampled, hrun⟩ := h.sampled
  exact ⟨_, hsampled, step_of_scan h.stage hrun (by rwa [h.idx]) (by rwa [h.line, h.idx])⟩

/-- The scan of one entry of the line. -/
theorem Scanning.step_entry {s t : State} {row i : Nat} (hline : LineClosed s) (h : Scanning s row i t) (hrow : row < 8)
    (hi : i < s.lineLen) : ∃ u, step t = .next u ∧ Scanning s row (i + 1) u := by
  obtain ⟨b, hb, hcr⟩ := hline.entries i hi
  have hlen := hline.len
  have hle := skipBefore_le s.cfg s.line i
  obtain ⟨u, hu, hstep⟩ := h.step_eq (by omega) hb
  have hcfg := hu.cfg
  have hurow := hu.row_eq
  have huidx := hu.idx
  have huskip := hu.skip
  have hmore : u.idx < u.lineLen := by rwa [huidx, hu.lineLen]
  rw [exec_decodeScan_entry (hcfg ▸ hline.params) hu.eol (by omega) (by omega) (hcfg ▸ hcr),
    advanceScan_of_entry (s := scanEntry b u) hmore, scanEntry_idx, huidx] at hstep
  refine ⟨_, hstep, hu.rendered_entry (by omega) hb, hu.stage, hurow, rfl, hu.eol, ?rvs, ?skip, ?font⟩
  case rvs => rw [rvsBefore_succ hb, ← hu.rvs, ← hcfg]; rfl
  case skip => rw [skipBefore_succ hb, ← huskip, ← hcfg]; rfl
  case font => rw [fontBefore_succ hb, ← hu.font, ← hcfg]; rfl

/-- A finished row shows its whole line. -/
theorem Rendered.next_row {s t : State} {row : Nat} (h : Rendered s row s.lineLen t) : Rendered s (row + 1) 0 t where
  line := h.line
  lineLen := h.lineLen
  constants := h.constants
  calm := h.calm
  bitmap r col hr hcol := by
    have hscanned : entriesScanned s.lineLen (row + 1) 0 r = entriesScanned s.lineLen row s.lineLen r := by
      unfold entriesScanned
      split_ifs <;> omega
    rw [hscanned]
    exact h.bitmap r col hr hcol

/-- The scan of the terminator ends the row. -/
theorem Scanning.step_terminator {s t : State} {row : Nat} (hline : LineClosed s) (h : Scanning s row s.lineLen t) :
    ∃ u, Scanning s row s.lineLen u ∧ step t = .next (advanceScan (latchEol (countSkip u))) ∧ u.lineLen ≤ u.idx := by
  obtain ⟨u, hu, hstep⟩ := h.step_eq (Nat.lt_succ_of_le hline.len) hline.terminator
  rw [← hu.cfg, exec_decodeScan_cr (hu.cfg ▸ hline.params)] at hstep
  exact ⟨u, hu, hstep, by rw [hu.lineLen, hu.idx]⟩

/-- After the terminator of row 0 to 6 the next row starts, with the font that this one left (R176). -/
theorem Scanning.step_next_row {s t : State} {row : Nat} (hline : LineClosed s) (h : Scanning s row s.lineLen t) (hrow : row < 7) :
    ∃ u, step t = .next u ∧ Scanning s (row + 1) 0 u := by
  obtain ⟨u, hu, hstep, hend⟩ := h.step_terminator hline
  rw [advanceScan_of_row (s := latchEol (countSkip u)) hend (by rwa [← hu.row_eq] at hrow)] at hstep
  exact ⟨_, hstep, { hu.next_row with }, rfl, congrArg (· + 1) hu.row_eq, rfl, rfl, rfl, rfl,
    hu.font.trans (fontBefore_rowFont ..)⟩

/-- After the terminator of row 7 the padding row comes next. -/
theorem Scanning.step_last_row {s t : State} (hline : LineClosed s) (h : Scanning s 7 s.lineLen t) :
    ∃ u, step t = .next u ∧ Rendered s 8 0 u ∧ u.stage = .pad ∧ u.font = fontBefore s.cfg s.line s.font s.lineLen := by
  obtain ⟨u, hu, hstep, hend⟩ := h.step_terminator hline
  rw [advanceScan_of_lastRow (s := latchEol (countSkip u)) hend hu.row_eq.ge] at hstep
  exact ⟨_, hstep, { hu.next_row with }, rfl, hu.font.trans (fontBefore_rowFont ..)⟩

/-! ### The eight scans -/

theorem Scanning.steps_entries {s t : State} {row : Nat} (hline : LineClosed s) (h : Scanning s row 0 t) (hrow : row < 8) {i : Nat}
    (hi : i ≤ s.lineLen) : ∃ u, steps i t = .next u ∧ Scanning s row i u := by
  induction i with
  | zero => exact ⟨t, rfl, h⟩
  | succ i ih =>
    obtain ⟨u, hsteps, hu⟩ := ih (Nat.le_of_succ_le hi)
    obtain ⟨v, hstep, hv⟩ := hu.step_entry hline hrow hi
    exact ⟨v, (steps_add hsteps 1).trans (steps_succ hstep 0), hv⟩

theorem Scanning.steps_rows {s t : State} (hline : LineClosed s) (h : Scanning s 0 0 t) {row : Nat} (hrow : row ≤ 7) :
    ∃ u, steps (row * (s.lineLen + 1)) t = .next u ∧ Scanning s row 0 u := by
  induction row with
  | zero => exact ⟨t, by rw [Nat.zero_mul]; rfl, h⟩
  | succ row ih =>
    obtain ⟨u, hrows, hu⟩ := ih (Nat.le_of_succ_le hrow)
    obtain ⟨v, hentries, hv⟩ := hu.steps_entries hline (by omega) (Nat.le_refl _)
    obtain ⟨w, hstep, hw⟩ := hv.step_next_row hline hrow
    refine ⟨w, ?_, hw⟩
    rw [Nat.succ_mul, steps_add hrows, steps_add hentries, steps_succ hstep]
    rfl

/-- Row 8 is still blank, and every other row shows all of its line. -/
theorem Rendered.read_bmp {s t : State} (h : Rendered s 8 0 t) {row col : Nat} (hrow : row < 9) (hcol : col < 48) :
    t.readByte .bmp (row * 48 + col) = some (closedForm s s.lineLen s.font row col) := by
  rw [readByte_bmp, h.bitmap row col hrow hcol]
  obtain hlt | hge := Nat.lt_or_ge row 8
  · rw [closedForm_of_lt hlt, entriesScanned, if_pos hlt]
  · rw [closedForm_of_ge hge, entriesScanned, if_neg (Nat.not_lt.2 hge), ite_self]
    rfl

/-! ### The statement -/

/-- Settles O43: eight row scans, each entry of which keeps the bitmap in step with the closed form. -/
theorem renderedBitmapHasItsClosedForm : Obligations.RenderedBitmapHasItsClosedForm := by
  unfold Obligations.RenderedBitmapHasItsClosedForm
  intro s hwf hst hrow hidx heol hrvs hskip hlen hterminator hentries hclear hcalm
  have hline : LineClosed s := ⟨hwf, hlen, hentries, hterminator⟩
  obtain ⟨u, hrows, hu⟩ := (Scanning.start hst hrow hidx heol hrvs hskip hclear hcalm).steps_rows hline (Nat.le_refl 7)
  obtain ⟨v, hlast, hv⟩ := hu.steps_entries hline (by decide) (Nat.le_refl _)
  obtain ⟨t, hstep, hrendered, hpad, hfont⟩ := hv.step_last_row hline
  refine ⟨t, ?count, hpad, hfont, hrendered.line, hrendered.lineLen, fun row col => hrendered.read_bmp⟩
  case count =>
    rw [Nat.succ_mul 7, steps_add hrows, steps_add hlast, steps_succ hstep]
    rfl

end Sys2Proof.Machine
end

section
/-! Every step keeps the invariant (spec/10_state.md R22, R33, spec/42_ingest.md R155, spec/43_render.md R177, spec/44_interfaces.md
R199): what it says at every stage alike, what it says of the place where the core stands, and operation by operation that it holds
afterwards. -/
namespace Sys2Proof.Machine

/-! ### The parts of the invariant -/

/-- What the invariant says at every stage alike: the memories, the parameters, `pending_err` and the entries of the line. -/
structure SteadyInv (s : State) : Prop extends MemoryInv s where
  params : s.cfg.wf = true
  pending : s.pendingErr = s.cfg.errDefault
  entries : ∀ a, a < s.lineLen → ∃ b, s.line.read a = some b ∧ b ≠ s.cfg.codeCr

/-- What the invariant says of the control registers at the stage where the core stands. -/
structure PlaceInv (s : State) : Prop where
  phase : phaseOk s.stage s.phase = true
  result : resultOk s.stage s.cmdRes = true
  busy : s.svcBusy = decide (s.stage ≠ .host)
  crit : s.crit = (decide (s.stage = .rx) || (decide (s.stage = .sw) && !s.pollR))
  talk : s.stage = .talk → s.txIdx < s.cfg.idLen

/-- What the invariant says of the scan registers while a row is scanned. -/
structure ScanInv (s : State) : Prop where
  row : s.row < Config.rows
  idx : s.idx ≤ s.lineLen
  eol : s.eol = false
  skip : s.skip = skipBefore s.cfg s.line s.idx
  rvs : s.rvs = rvsBefore s.cfg s.line s.idx

/-- What the invariant says of the buffers from the flush to the return of `print_raster`. -/
structure RenderingInv (s : State) : Prop where
  len : s.lineLen ≤ 48
  terminator : s.line.read s.lineLen = some s.cfg.codeCr
  full : ∀ a, a < Config.bmpSize → (s.bmp.read a).isSome = true

theorem Inv.steady {s : State} (h : Inv s) : SteadyInv s :=
  { h.memory with params := h.control.params, pending := h.control.pending, entries := h.line.entries }

theorem Inv.place {s : State} (h : Inv s) : PlaceInv s := { h.control with }

theorem Inv.scanning {s : State} (h : Inv s) (hst : s.stage = .scan) : ScanInv s :=
  ⟨h.render.row hst, h.render.idx hst, h.render.eol hst, h.render.skip hst, h.render.rvs hst⟩

theorem Inv.rendering {s : State} {st : Stage} (h : Inv s) (hst : s.stage = st) (hrender : st.rendering = true) : RenderingInv s :=
  ⟨h.line.len, h.line.terminator (hst ▸ hrender), h.render.full (hst ▸ hrender)⟩

theorem Inv.lineLen_le {s : State} {st : Stage} (h : Inv s) (hst : s.stage = st) (hopen : st.rendering = false) : s.lineLen ≤ 47 :=
  h.line.open_len (hst ▸ hopen)

/-- Outside a render the line is open: there is room for one more entry and the terminator. -/
theorem SteadyInv.inv_of_open {s : State} (h : SteadyInv s) (hplace : PlaceInv s) (hst : s.stage.rendering = false)
    (hlen : s.lineLen ≤ 47) : Inv s := by
  have hrender : s.stage.rendering ≠ true := by simp [hst]
  have hscan : s.stage ≠ .scan := fun e => hrender (by rw [e]; rfl)
  exact {
    memory := h.toMemoryInv
    control := { h, hplace with }
    line := ⟨fun _ => hlen, Nat.le_succ_of_le hlen, h.entries, (absurd · hrender)⟩
    render := ⟨(absurd · hrender), (absurd · hscan), (absurd · hscan), (absurd · hscan), (absurd · hscan), (absurd · hscan)⟩ }

theorem SteadyInv.inv_of_rendering {s : State} (h : SteadyInv s) (hplace : PlaceInv s) (hst : s.stage.rendering = true)
    (hrender : RenderingInv s) (hscan : s.stage = .scan → ScanInv s) : Inv s where
  memory := h.toMemoryInv
  control := { h, hplace with }
  line := ⟨fun hopen => absurd (hst.symm.trans hopen) (Bool.false_ne_true ·.symm), hrender.len, h.entries, fun _ => hrender.terminator⟩
  render := ⟨fun _ => hrender.full, fun e => (hscan e).row, fun e => (hscan e).idx, fun e => (hscan e).eol, fun e => (hscan e).skip,
    fun e => (hscan e).rvs⟩

/-! ### The control registers, stage by stage -/

theorem placeInv_iff {s : State} : PlaceInv s ↔
    phaseOk s.stage s.phase = true ∧ resultOk s.stage s.cmdRes = true ∧ s.svcBusy = decide (s.stage ≠ .host)
      ∧ s.crit = (decide (s.stage = .rx) || (decide (s.stage = .sw) && !s.pollR)) ∧ (s.stage = .talk → s.txIdx < s.cfg.idLen) :=
  ⟨fun ⟨hphase, hresult, hbusy, hcrit, htalk⟩ => ⟨hphase, hresult, hbusy, hcrit, htalk⟩,
    fun ⟨hphase, hresult, hbusy, hcrit, htalk⟩ => ⟨hphase, hresult, hbusy, hcrit, htalk⟩⟩

theorem placeInv_of_host {s : State} (hst : s.stage = .host) :
    PlaceInv s ↔ s.phase = .idle ∧ s.svcBusy = false ∧ s.crit = false := by
  simp [placeInv_iff, hst, phaseOk, resultOk]

theorem placeInv_of_sw {s : State} (hst : s.stage = .sw) :
    PlaceInv s ↔ s.phase = .idle ∧ s.svcBusy = true ∧ s.crit = !s.pollR := by
  simp [placeInv_iff, hst, phaseOk, resultOk]

theorem placeInv_of_talk {s : State} (hst : s.stage = .talk) : PlaceInv s ↔
    s.phase = .dataTalk ∧ s.cmdRes = Dir.talk.res ∧ s.svcBusy = true ∧ s.crit = false ∧ s.txIdx < s.cfg.idLen := by
  simp [placeInv_iff, hst, phaseOk, resultOk]

theorem placeInv_of_complete {s : State} (hst : s.stage = .complete) : PlaceInv s ↔
    s.phase ≠ .idle ∧ (∃ d : Dir, s.cmdRes = d.res) ∧ s.svcBusy = true ∧ s.crit = false := by
  have hdir : (∃ d : Dir, s.cmdRes = d.res) ↔ s.cmdRes = Dir.talk.res ∨ s.cmdRes = Dir.listen.res ∨ s.cmdRes = Dir.command.res :=
    ⟨fun ⟨d, e⟩ => by cases d <;> simp [e], by rintro (e | e | e) <;> exact ⟨_, e⟩⟩
  rw [hdir]
  simp [placeInv_iff, hst, phaseOk, resultOk]

/-- The stages of the listen handler (spec/41_sessions.md R136). -/
def Stage.listening : Stage → Bool
  | .fontSelect | .openSession | .rx | .ingest | .scan | .pad | .print => true
  | .host | .sw | .talk | .complete => false

/-- What the control registers hold at every stage of the listen handler. -/
structure InSession (s : State) : Prop where
  phase : s.phase = .dataListen
  result : s.cmdRes = Dir.listen.res
  busy : s.svcBusy = true

theorem placeInv_of_listening {s : State} (hst : s.stage.listening = true) :
    PlaceInv s ↔ InSession s ∧ s.crit = decide (s.stage = .rx) := by
  have hsession : InSession s ↔ s.phase = .dataListen ∧ s.cmdRes = Dir.listen.res ∧ s.svcBusy = true :=
    ⟨fun ⟨hphase, hresult, hbusy⟩ => ⟨hphase, hresult, hbusy⟩, fun ⟨hphase, hresult, hbusy⟩ => ⟨hphase, hresult, hbusy⟩⟩
  rw [hsession, placeInv_iff]
  cases e : s.stage <;> rw [e] at hst <;> simp [phaseOk, resultOk, Stage.listening, and_assoc] at hst ⊢

theorem InSession.placeInv {s : State} (h : InSession s) (hst : s.stage.listening = true) (hcrit : s.crit = decide (s.stage = .rx)) :
    PlaceInv s := (placeInv_of_listening hst).2 ⟨h, hcrit⟩

/-- A session that ends stands at the completion of a listen command. -/
theorem InSession.placeInv_complete {s : State} (h : InSession s) (hst : s.stage = .complete) (hcrit : s.crit = false) : PlaceInv s :=
  (placeInv_of_complete hst).2 ⟨by rw [h.phase]; decide, ⟨.listen, h.result⟩, h.busy, hcrit⟩

theorem Inv.inSession {s : State} {st : Stage} (h : Inv s) (hst : s.stage = st) (hlistens : st.listening = true) :
    InSession s ∧ s.crit = decide (st = .rx) := by
  subst hst
  exact (placeInv_of_listening hlistens).1 h.place

/-! ### Reset and return -/

/-- The causes of a reset have the reset registers in common, keep the memories and lead between cycles (spec/10_state.md R45). -/
theorem ResetRegisters.inv {s t : State} (hreg : ResetRegisters s t) (hmemory : MemoryInv t) (hparams : s.cfg.wf = true)
    (hcfg : t.cfg = s.cfg) (hst : t.stage = .host) (hbusy : t.svcBusy = false) : Inv t := by
  have hsteady : SteadyInv t := { hmemory with
    params := hcfg ▸ hparams
    pending := hcfg ▸ hreg.pendingErr
    entries := fun a ha => absurd (hreg.lineLen ▸ ha) (Nat.not_lt_zero a) }
  exact hsteady.inv_of_open ((placeInv_of_host hst).2 ⟨hreg.phase, hbusy, hreg.crit⟩) (by rw [hst]; rfl)
    (by rw [hreg.lineLen]; exact Nat.zero_le 47)

theorem hardwareReset_inv {s : State} (h : Inv s) : Inv (hardwareReset s) :=
  (hardwareReset_resetRegisters s).inv { h.memory with } h.control.params rfl rfl rfl

/-- The end of a cycle whose line is open. -/
theorem SteadyInv.returnCycle_inv {s : State} (h : SteadyInv s) (hphase : s.phase = .idle) (hcrit : s.crit = false)
    (hlen : s.lineLen ≤ 47) (oc : OutcomeCode) : Inv (returnCycle oc s) := by
  have hsteady : SteadyInv (returnCycle oc s) := { h with }
  exact hsteady.inv_of_open ((placeInv_of_host rfl).2 ⟨hphase, rfl, hcrit⟩) rfl hlen

/-! ### Between cycles and at the dispatch -/

theorem execHostServiceCycle_inv {s t : State} (h : Inv s) (hst : s.stage = .host) (e : execHostServiceCycle s = .next t) :
    Inv t := by
  obtain ⟨hphase, -, hcrit⟩ := (placeInv_of_host hst).1 h.place
  obtain ⟨tr, rfl, -⟩ := execHostServiceCycle_next e
  refine SteadyInv.inv_of_open { h.steady with } ?place rfl (h.lineLen_le hst rfl)
  refine (placeInv_of_sw rfl).2 ⟨hphase, rfl, ?_⟩
  cases pollReset s <;> simp [hcrit]

theorem exec_decodeHost_inv {w : Nat} {s t : State} (h : Inv s) (hst : s.stage = .host) (e : exec (decodeHost w) s = .next t) :
    Inv t := by
  obtain ⟨-, e'⟩ | e' | e' := exec_decodeHost w s <;> rw [e'] at e
  · cases e
    obtain ⟨-, hbusy, -⟩ := (placeInv_of_host hst).1 h.place
    exact (doReset_resetRegisters s).inv { h.memory with } h.control.params rfl hst hbusy
  · exact execHostServiceCycle_inv h hst e
  · cases e
    exact h

/-- The driver's argument bytes fit `ARG`, so the dispatch keeps what holds at every stage. -/
theorem dispatchCommand_steady {s : State} (h : SteadyInv s) (d : Dir) (code : Byte) (p : Phase) (st : Stage) :
    SteadyInv (dispatchCommand d code p st s) := by
  have harg : (Memory.ofBytes 0 (s.pins.atnArgs.take s.cfg.argMax)).wf s.cfg.argMax = true :=
    (Memory.wf_ofBytes _ 0 _ (by simp)).1
  exact { h with arg := harg }

/-- A call that is only recorded changes nothing the invariant is about. -/
theorem callSend_inv {s : State} (h : Inv s) : Inv (callSend s) := by
  obtain ⟨-, e⟩ | ⟨b, -, -, e⟩ := callSend_cases s <;> rw [e]
  · exact h
  · exact ⟨{ h.memory with }, { h.control with }, { h.line with }, { h.render with }⟩

theorem exec_decodeServiceWord_inv {c : Config} {w : Nat} {s t : State} (h : Inv s) (hst : s.stage = .sw)
    (e : exec (decodeServiceWord c w) s = .next t) : Inv t := by
  obtain ⟨hphase, hbusy, -⟩ := (placeInv_of_sw hst).1 h.place
  have hlen : s.lineLen ≤ 47 := h.lineLen_le hst rfl
  have dispatched := dispatchCommand_steady h.steady
  obtain ⟨-, e'⟩ | e' | ⟨-, -, res, code, e'⟩ | ⟨d, k, p, hp, e'⟩ | ⟨k, e'⟩ | ⟨k, e'⟩ := exec_decodeServiceWord c w s <;>
    (rw [e'] at e; cases e)
  · exact (busReset_resetRegisters s).inv { h.memory with } h.control.params rfl rfl rfl
  · exact SteadyInv.returnCycle_inv (s := latchIdle s) { h.steady with } hphase rfl hlen .idle
  · exact (decodeFailed_resetRegisters res code s).inv { h.memory with } h.control.params rfl rfl rfl
  · exact (dispatched d k p .complete).inv_of_open ((placeInv_of_complete rfl).2 ⟨hp, ⟨d, rfl⟩, hbusy, rfl⟩) rfl hlen
  · exact callSend_inv (SteadyInv.inv_of_open { dispatched .talk k .dataTalk .talk with }
      ((placeInv_of_talk rfl).2 ⟨rfl, rfl, hbusy, rfl, Nat.succ_pos _⟩) rfl hlen)
  · exact (dispatched .listen k .dataListen .fontSelect).inv_of_open
      (InSession.placeInv ⟨rfl, rfl, hbusy⟩ rfl rfl) rfl hlen

/-! ### The talk handler and the completion -/

theorem sendTaken_inv {s : State} (h : Inv s) (hst : s.stage = .talk) : Inv (sendTaken s) := by
  obtain ⟨hphase, hresult, hbusy, hcrit, -⟩ := (placeInv_of_talk hst).1 h.place
  have hlen : s.lineLen ≤ 47 := h.lineLen_le hst rfl
  obtain ⟨hmore, e⟩ | ⟨-, e⟩ := sendTaken_cases s <;> rw [e]
  · exact callSend_inv (SteadyInv.inv_of_open { h.steady with }
      ((placeInv_of_talk (s := { s with txIdx := s.txIdx + 1 }) hst).2 ⟨hphase, hresult, hbusy, hcrit, hmore⟩) (by rw [hst]; rfl) hlen)
  · exact SteadyInv.inv_of_open { h.steady with }
      ((placeInv_of_complete rfl).2 ⟨by rw [hphase]; decide, ⟨.talk, hresult⟩, hbusy, hcrit⟩) rfl hlen

theorem completeCycle_inv {s : State} (h : Inv s) (hst : s.stage = .complete) : Inv (completeCycle s) := by
  obtain ⟨-, -, -, hcrit⟩ := (placeInv_of_complete hst).1 h.place
  exact SteadyInv.returnCycle_inv (s := { s with phase := .idle }) { h.steady with } rfl hcrit (h.lineLen_le hst rfl) _

/-! ### The listen handler -/

/-- The next `receive()` waits with `crit` set. -/
theorem callReceive_inv {s : State} (h : SteadyInv s) (hsession : InSession s) (hlen : s.lineLen ≤ 47) : Inv (callReceive s) :=
  SteadyInv.inv_of_open { h with } (InSession.placeInv { hsession with } rfl rfl) rfl hlen

theorem endOfTurn_inv {s : State} (h : SteadyInv s) (hsession : InSession s) (hcrit : s.crit = false) (hlen : s.lineLen ≤ 47) :
    Inv (endOfTurn s) := by
  obtain ⟨-, e⟩ | ⟨-, e⟩ := endOfTurn_cases s <;> rw [e]
  · exact SteadyInv.inv_of_open { h with } (InSession.placeInv_complete { hsession with } rfl hcrit) rfl hlen
  · exact callReceive_inv h hsession hlen

theorem openSession_inv {s : State} (h : Inv s) (hst : s.stage = .openSession) : Inv (openSession s) := by
  obtain ⟨hsession, -⟩ := h.inSession hst rfl
  exact callReceive_inv { h.steady with entries := nofun } { hsession with } (Nat.zero_le 47)

theorem printReturned_inv {s : State} (h : Inv s) (hst : s.stage = .print) : Inv (printReturned s) := by
  obtain ⟨hsession, hcrit⟩ := h.inSession hst rfl
  exact endOfTurn_inv { h.steady with entries := nofun } { hsession with } hcrit (Nat.zero_le 47)

theorem exec_decodeFontSelect_inv {ch : Nibble} {s t : State} (h : Inv s) (hst : s.stage = .fontSelect)
    (e : exec (decodeFontSelect ch) s = .next t) : Inv t := by
  obtain ⟨hsession, hcrit⟩ := h.inSession hst rfl
  obtain ⟨f, e'⟩ := exec_decodeFontSelect ch s
  rw [e'] at e
  cases e
  exact SteadyInv.inv_of_open { h.steady with } (InSession.placeInv { hsession with } rfl hcrit) rfl (h.lineLen_le hst rfl)

theorem exec_decodeReceive_inv {w : Nat} {s t : State} (h : Inv s) (hst : s.stage = .rx) (e : exec (decodeReceive w) s = .next t) :
    Inv t := by
  obtain ⟨hsession, -⟩ := h.inSession hst rfl
  have hlen : s.lineLen ≤ 47 := h.lineLen_le hst rfl
  obtain ⟨b, eod, e'⟩ | ⟨b, eod, e'⟩ := exec_decodeReceive w s <;> (rw [e'] at e; cases e)
  · exact SteadyInv.inv_of_open { h.steady with } (InSession.placeInv { hsession with } rfl rfl) rfl hlen
  · exact SteadyInv.inv_of_open { h.steady with } (InSession.placeInv_complete { hsession with } rfl rfl) rfl hlen

/-! ### The ingest -/

/-- A store at `line_len` leaves the entries before it. -/
theorem SteadyInv.write_line {s : State} (h : SteadyInv s) (hlen : s.lineLen < 49) (v : Byte) :
    SteadyInv { s with line := s.line.write s.lineLen v } :=
  { h with
    line := Memory.wf_write h.line hlen v
    entries := fun a ha => by
      rw [Memory.read_write_other _ _ (Nat.ne_of_lt ha)]
      exact h.entries a ha }

/-- Another byte than the carriage return becomes the last entry of the line (spec/42_ingest.md R155 (b)). -/
theorem SteadyInv.append {s : State} (h : SteadyInv s) (hlen : s.lineLen < 49) {b : Byte} (hb : b ≠ s.cfg.codeCr) :
    SteadyInv { s with line := s.line.write s.lineLen b, lineLen := s.lineLen + 1 } :=
  { h.write_line hlen b with
    entries := fun a ha => by
      obtain hlt | rfl := Nat.lt_succ_iff_lt_or_eq.1 ha
      · exact (h.write_line hlen b).entries a hlt
      · exact ⟨b, Memory.read_write_same _ _ _, hb⟩ }

/-- The clear writes every byte of the bitmap (spec/43_render.md R161). -/
theorem beginRender_full (s : State) : ∀ a, a < Config.bmpSize → ((beginRender s).bmp.read a).isSome = true := by
  intro a ha
  rw [← readByte_bmp, read_beginRender_bmp, if_pos (show a < 432 from ha)]
  rfl

/-- A flush closes the line, and the scan of row 0 starts over a bitmap that has been written throughout. -/
theorem flush_inv {s t : State} (h : SteadyInv s) (hsession : InSession s) (hcrit : s.crit = false) (e : flush s = .next t) :
    Inv t := by
  obtain ⟨hlen, rfl⟩ := flush_next e
  exact SteadyInv.inv_of_rendering { h.write_line hlen s.cfg.codeCr with bmp := Memory.wf_fill _ _ }
    (InSession.placeInv { hsession with } rfl hcrit) rfl
    ⟨Nat.le_of_lt_succ hlen, Memory.read_write_same _ _ _, beginRender_full _⟩
    fun _ => ⟨Nat.succ_pos 7, Nat.zero_le _, rfl, rfl, rfl⟩

theorem exec_decodeIngest_inv {b : Byte} {s t : State} (h : Inv s) (hst : s.stage = .ingest)
    (e : exec (decodeIngest s.cfg b) s = .next t) : Inv t := by
  obtain ⟨hsession, hcrit⟩ := h.inSession hst rfl
  have hlen : s.lineLen ≤ 47 := h.lineLen_le hst rfl
  obtain ⟨-, e'⟩ | ⟨hb, e'⟩ := exec_decodeIngest s.cfg b s <;> rw [e'] at e
  · exact flush_inv h.steady hsession hcrit e
  · obtain ⟨hlt, ⟨-, hflush⟩ | ⟨hne, rfl⟩⟩ := execIngChar_next e
    · exact flush_inv (h.steady.append hlt hb) { hsession with } hcrit hflush
    · exact endOfTurn_inv (h.steady.append hlt hb) { hsession with } hcrit (Nat.lt_of_le_of_ne hlen hne)

/-! ### The render -/

/-- A bitmap that is written throughout stays so when a byte is stored. -/
theorem write_bmp_full {m : Memory} (h : ∀ a, a < Config.bmpSize → (m.read a).isSome = true) (i : Nat) (v : Byte) :
    ∀ a, a < Config.bmpSize → ((m.write i v).read a).isSome = true := by
  intro a ha
  rw [Memory.read_write]
  split
  · rfl
  · exact h a ha

/-- The scan of an entry stores at most one byte, in the column of the entry. -/
theorem scanEntry_bmp_cases (b : Byte) (s : State) :
    (scanEntry b s).bmp = s.bmp ∨ ∃ v, (scanEntry b s).bmp = s.bmp.write (s.row * 48 + (s.idx - s.skip)) v := by
  cases hprintable : s.cfg.printable b with
  | false => exact .inl (by simp only [scanEntry, hprintable, Bool.false_eq_true, if_false])
  | true => exact .inr ⟨_, by simp only [scanEntry, hprintable, if_true]; rfl⟩

/-- The scan of an entry of the line: `skip` and `rvs` stay functions of the line and of `idx` (R163, R177). -/
theorem scanEntry_inv {b : Byte} {s : State} (h : Inv s) (hst : s.stage = .scan) (hlt : s.idx < s.lineLen)
    (hb : s.line.read s.idx = some b) : Inv { scanEntry b s with idx := s.idx + 1 } := by
  have hrender := h.rendering hst rfl
  have hscan := h.scanning hst
  have haddr : s.row * 48 + (s.idx - s.skip) < 432 := by
    have hrow : s.row < 8 := hscan.row
    have hidx := h.idx_le hst
    omega
  have hskip : (scanEntry b s).skip = skipBefore s.cfg s.line (s.idx + 1) := by
    rw [skipBefore_succ hb, ← hscan.skip]
    rfl
  have hrvs : (scanEntry b s).rvs = rvsBefore s.cfg s.line (s.idx + 1) := by
    rw [rvsBefore_succ hb, ← hscan.rvs]
    rfl
  have hbmp : (scanEntry b s).bmp.wf Config.bmpSize = true ∧
      ∀ a, a < Config.bmpSize → ((scanEntry b s).bmp.read a).isSome = true := by
    obtain e | ⟨v, e⟩ := scanEntry_bmp_cases b s <;> rw [e]
    · exact ⟨h.memory.bmp, hrender.full⟩
    · exact ⟨Memory.wf_write h.memory.bmp haddr v, write_bmp_full hrender.full _ v⟩
  exact SteadyInv.inv_of_rendering { h.steady with bmp := hbmp.1 } { h.place with } (congrArg Stage.rendering hst)
    ⟨hrender.len, hrender.terminator, hbmp.2⟩ fun _ => ⟨hscan.row, hlt, hscan.eol, hskip, hrvs⟩

/-- The scan of the terminator ends the row: the next row starts with its registers cleared, after row 7 the padding row comes. -/
theorem scanTerminator_inv {s : State} (h : Inv s) (hst : s.stage = .scan) (hend : s.lineLen ≤ s.idx) :
    Inv (advanceScan (latchEol (countSkip s))) := by
  have hrender := h.rendering hst rfl
  obtain ⟨hsession, hcrit⟩ := h.inSession hst rfl
  obtain hrow | hrow := Nat.lt_or_ge s.row 7
  · rw [advanceScan_of_row (s := latchEol (countSkip s)) hend hrow]
    exact SteadyInv.inv_of_rendering { h.steady with } (InSession.placeInv { hsession with } rfl hcrit) rfl { hrender with }
      fun _ => ⟨Nat.succ_lt_succ hrow, Nat.zero_le _, rfl, rfl, rfl⟩
  · rw [advanceScan_of_lastRow (s := latchEol (countSkip s)) hend hrow]
    exact SteadyInv.inv_of_rendering { h.steady with } (InSession.placeInv { hsession with } rfl hcrit) rfl { hrender with } nofun

theorem exec_decodeScan_inv {b : Byte} {s t : State} (h : Inv s) (hst : s.stage = .scan) (hb : s.line.read s.idx = some b)
    (e : exec (decodeScan s.cfg b) s = .next t) : Inv t := by
  have hscan := h.scanning hst
  obtain hlt | heq := Nat.lt_or_eq_of_le hscan.idx
  · obtain ⟨b', hb', hcr⟩ := h.line.entries s.idx hlt
    obtain rfl : b' = b := Option.some.inj (hb'.symm.trans hb)
    have hrow : s.row < 8 := hscan.row
    have hidx := h.idx_le hst
    rw [exec_decodeScan_entry h.control.params hscan.eol (h.skip_le_idx hst) (by omega) hcr,
      advanceScan_of_entry (s := scanEntry b' s) hlt, scanEntry_idx] at e
    cases e
    exact scanEntry_inv h hst hlt hb
  · have hterminator := (h.rendering hst rfl).terminator
    obtain rfl : s.cfg.codeCr = b := Option.some.inj (hterminator.symm.trans (heq ▸ hb))
    rw [exec_decodeScan_cr h.control.params] at e
    cases e
    exact scanTerminator_inv h hst heq.ge

/-- A bitmap that is written throughout is handed over. -/
theorem callPrintRaster_inv {s : State} (h : Inv s) (hst : s.stage = .pad) {m : Memory} (hwf : m.wf Config.bmpSize = true)
    (hfull : ∀ a, a < Config.bmpSize → (m.read a).isSome = true) (bytes : List Byte) :
    Inv (callPrintRaster bytes { s with bmp := m }) := by
  have hrender := h.rendering hst rfl
  obtain ⟨hsession, hcrit⟩ := h.inSession hst rfl
  exact SteadyInv.inv_of_rendering { h.steady with bmp := hwf } (InSession.placeInv { hsession with } rfl hcrit) rfl
    { hrender with full := hfull } nofun

theorem padAndPrint_inv {s t : State} (h : Inv s) (hst : s.stage = .pad) (e : padAndPrint s = .next t) : Inv t := by
  obtain ⟨bytes, -, -, rfl⟩ := padAndPrint_next e
  refine callPrintRaster_inv h hst (Memory.wf_writeRun 48 h.memory.bmp (Nat.le_refl 432) _) (fun a ha => ?full) bytes
  case full =>
    rw [Memory.read_writeRun]
    split
    · rfl
    · exact (h.rendering hst rfl).full a ha

/-! ### The step -/

theorem exec_fetched_inv {f : Format} {w : Nat} {i : Instr} {s t : State} (h : Inv s) (hf : fetch s = .word f w)
    (hd : decode s.cfg f w = .ok i) (e : exec i s = .next t) : Inv t := by
  obtain ⟨hst, rfl, -⟩ | ⟨hst, rfl, -⟩ | ⟨hst, rfl⟩ | ⟨hst, rfl⟩ | ⟨hst, rfl⟩ | ⟨hst, rfl, hb⟩ := fetch_word hf
  · obtain ⟨-, rfl⟩ := decode_host_ok.1 hd; exact exec_decodeHost_inv h hst e
  · obtain ⟨-, rfl⟩ := decode_sw_ok.1 hd; exact exec_decodeServiceWord_inv h hst e
  · obtain ⟨-, rfl⟩ := decode_fs_ok.1 hd; exact exec_decodeFontSelect_inv h hst e
  · obtain ⟨-, rfl⟩ := decode_rxa_ok.1 hd; exact exec_decodeReceive_inv h hst e
  · obtain ⟨-, rfl⟩ := decode_dbIng_ok.1 hd; exact exec_decodeIngest_inv h hst e
  · obtain ⟨-, rfl⟩ := decode_dbScan_ok.1 hd; exact exec_decodeScan_inv h hst hb e

theorem piece_inv {s t : State} (h : Inv s) (hp : fetch s = .piece (.next t)) : Inv t := by
  obtain ⟨hst, -, rfl⟩ | ⟨hst, rfl⟩ | ⟨hst, hpad⟩ | ⟨-, -, -, rfl⟩ | ⟨hst, -, -, rfl⟩ | ⟨hst, rfl⟩ := fetch_piece_next hp
  · exact sendTaken_inv h hst
  · exact openSession_inv h hst
  · exact padAndPrint_inv h hst hpad
  · exact ⟨{ h.memory with }, { h.control with }, { h.line with }, { h.render with }⟩
  · exact printReturned_inv h hst
  · exact completeCycle_inv h hst

/-- Settles O51: sampling keeps the invariant, and so do the four ways a step goes on. -/
theorem everyStepKeepsTheInvariant : Obligations.EveryStepKeepsTheInvariant := by
  unfold Obligations.EveryStepKeepsTheInvariant
  intro s t hinv h
  obtain ⟨-, rfl⟩ | ⟨-, f, w, i, hf, hd, hi⟩ | ⟨-, hp⟩ | ⟨-, -, rfl, -⟩ := step_next_cases h
  · exact hardwareReset_inv hinv.sampled
  · exact exec_fetched_inv hinv.sampled hf (by rwa [sample_cfg]) hi
  · exact piece_inv hinv.sampled hp
  · exact hinv.sampled

end Sys2Proof.Machine
end

section
/-! The interfaces (spec/44_interfaces.md): a call that waits, the driver's contract, the three host requests, and which of the core's
requests is up. -/
namespace Sys2Proof.Machine

/-! ### A call that waits (R203) -/

/-- Inside a cycle, where `svc_done_o` is 0, sampling writes the sampled ports and the tape only. -/
theorem sample_of_not_done {s : State} {p : Pins} {rest : List Pins} (htape : s.tape = p :: rest) (hdone : s.svcDone = false) :
    sample s = { s with pins := p, tape := rest } := by
  rw [sample_cons htape, ← hdone]

/-- The output ports show neither the sampled ports nor the tape. -/
theorem outputs_sampled (s : State) (p : Pins) (ts : List Pins) : outputs { s with pins := p, tape := ts } = outputs s := rfl

theorem step_of_waiting {s : State} {call : CallName} (hmore : s.tape ≠ []) (hrun : (sample s).pins.rst = false)
    (hf : fetch (sample s) = .waiting call) : step s = .next (sample s) := by
  rw [step_of_running hrun, advance_waiting hf, if_pos (by simpa using hmore)]

/-! ### The driver's contract (R193) -/

theorem breaksContract_of_argMax_lt {s : State} {d : Dir} (hres : s.pins.atnRes = d.res) (hlong : s.cfg.argMax < argLenIn s) :
    breaksContract s = true := by
  refine (breaksContract_iff s).2 ⟨?_, hlong⟩
  rw [hres]
  cases d <;> decide

theorem fetchServiceWord_of_breaksContract {s : State} (hpoll : s.pollR = false) (hack : s.pins.atnAck = true)
    (hbreaks : breaksContract s = true) : fetchServiceWord s = .piece (.refused (.argumentTooLong (argLenIn s))) := by
  simp only [fetchServiceWord, hpoll, hack, hbreaks, Bool.not_true, Bool.false_eq_true, if_false, if_true]

/-! ### The statements -/

/-- Settles O9: a call that waits leaves the sampled state, which differs in no output. -/
theorem waitingCallHoldsStateAndOutputs : Obligations.WaitingCallHoldsStateAndOutputs := by
  unfold Obligations.WaitingCallHoldsStateAndOutputs
  intro s p rest call htape hrst hdone hf
  have hsample := sample_of_not_done htape hdone
  have hstep := step_of_waiting (by simp [htape]) (by rwa [hsample]) hf
  exact ⟨hsample ▸ hstep, outputs_sampled s p rest⟩

/-- Settles O10: the answer breaks the contract, so no word is taken. -/
theorem tooLongArgumentIsRefused : Obligations.TooLongArgumentIsRefused := by
  unfold Obligations.TooLongArgumentIsRefused
  intro s p rest d htape hrst hst hpoll hack hres hlong
  have hsample := sample_eq_sampled htape
  have hbreaks : breaksContract (s.sampled p rest) = true := breaksContract_of_argMax_lt hres hlong
  have hfetch := (fetch_of_sw (s := s.sampled p rest) hst).trans (fetchServiceWord_of_breaksContract hpoll hack hbreaks)
  rw [step_of_running (by rwa [hsample]), hsample, advance_piece hfetch]
  rfl

/-- Settles O12: INITIALIZE is the reset routine. -/
theorem initializeWritesTheResetRegistersOnly : Obligations.InitializeWritesTheResetRegistersOnly := by
  unfold Obligations.InitializeWritesTheResetRegistersOnly
  intro start s
  exact ⟨doReset s, rfl, doReset_resetRegisters s, sameBytes_of_mem_eq rfl, rfl⟩

/-- Settles O13, by the answer of the reset poll, which can be true only on a platform with the line. -/
theorem serviceCyclePollsThenDecodes : Obligations.ServiceCyclePollsThenDecodes := by
  unfold Obligations.ServiceCyclePollsThenDecodes
  intro s
  cases hpoll : s.cfg.hasResetLine && s.pins.drvReset with
  | false => exact ⟨attentionCalled s, execHostServiceCycle_of_poll_false hpoll, rfl, rfl, rfl, rfl, rfl, sameBytes_of_mem_eq rfl, rfl⟩
  | true =>
    obtain ⟨hline, -⟩ := Bool.and_eq_true_iff.1 hpoll
    refine ⟨busResetSeen s, execHostServiceCycle_of_poll_true hpoll, rfl, rfl, rfl, rfl, ?trace, sameBytes_of_mem_eq rfl, rfl⟩
    case trace => simp only [busResetSeen, hline, if_true, List.append_nil]

/-- Settles O14: without a request the state stays. -/
theorem noHostRequestChangesNothing : Obligations.NoHostRequestChangesNothing := by
  unfold Obligations.NoHostRequestChangesNothing
  intro s
  exact ⟨rfl, sameBytes_of_mem_eq rfl⟩

/-- Settles O60: each request belongs to one stage, `pr_valid_o` to the stage of `pr_req_o`. -/
theorem atMostOneRequestIsUp : Obligations.AtMostOneRequestIsUp := by
  unfold Obligations.AtMostOneRequestIsUp
  intro s
  refine ⟨?one, fun hvalid => (Bool.and_eq_true_iff.1 hvalid).1⟩
  case one =>
    cases hst : s.stage with
    | sw => cases hpoll : s.pollR <;> simp [outputs, hst, hpoll]
    | host | talk | fontSelect | openSession | rx | ingest | scan | pad | print | complete => simp [outputs, hst]

end Sys2Proof.Machine
end

section
/-! Exceptions (spec/60_exceptions.md): a call that is stuck (R241), which ports a core inside a service cycle does not look at (R222), and
the way of a bus reset through a listen session into the next cycle (R225, R229). -/
namespace Sys2Proof.Machine

/-! ### Calls that have not returned (R203) -/

theorem fetchServiceWord_of_noAnswer {s : State} (hpoll : s.pollR = false) (hack : s.pins.atnAck = false) :
    fetchServiceWord s = .waiting .decodeAttention := by
  simp only [fetchServiceWord, hpoll, hack, Bool.not_false, Bool.false_eq_true, if_false, if_true]

theorem fetch_of_rx_of_noAnswer {s : State} (hst : s.stage = .rx) (hack : s.pins.rxAck = false) : fetch s = .waiting .receive := by
  rw [fetch_of_rx hst, if_neg (by simp [hack])]

theorem fetchTalk_of_notReady {s : State} (hidx : s.txIdx < s.cfg.idLen) (hready : s.pins.txReady = false) :
    fetchTalk s = .waiting (if s.txIdx + 1 = s.cfg.idLen then .sendFinal else .send) := by
  obtain ⟨b, hb⟩ := idString_at hidx
  simp only [fetchTalk, hb, hready, Bool.false_eq_true, if_false]

theorem fetchPrint_of_noAnswer {s : State} (hready : s.pins.prReady = false) (hack : s.pins.prAck = false) :
    fetchPrint s = .waiting .printRaster := by
  simp only [fetchPrint, hready, hack, Bool.false_eq_true, if_false, ite_self]

/-! ### Stuck calls (R241) -/

/-- Past the end of the tape every input port is 0 (log entry 2). -/
theorem sample_pins_of_nil {s : State} (h : s.tape = []) : (sample s).pins = {} := by rw [sample_nil h]

theorem step_of_stuck {s : State} {call : CallName} (h : s.tape = []) (hf : fetch (sample s) = .waiting call) :
    step s = .fault (.stuck call) := by
  rw [step_of_running (by rw [sample_pins_of_nil h]), advance_waiting hf, h]
  rfl

/-- In the talk handler the call that is stuck is the one for the byte on offer. -/
theorem step_of_stuckSend {s : State} (h : s.tape = []) (hst : s.stage = .talk) (hidx : s.txIdx < s.cfg.idLen) :
    step s = .fault (.stuck (if s.txIdx + 1 = s.cfg.idLen then .sendFinal else .send)) := by
  have hfetch := fetchTalk_of_notReady (s := sample s) (by rwa [sample_txIdx, sample_cfg]) (by rw [sample_pins_of_nil h])
  rw [sample_txIdx, sample_cfg] at hfetch
  exact step_of_stuck h ((fetch_of_talk (by rwa [sample_stage])).trans hfetch)

/-! ### The format of a decoded row -/

theorem rsvdRow_format (d : Dir) (k : Nat) (low : Nibble) : (rsvdRow d k low).format = .sw := by
  cases d with
  | talk => simp only [rsvdRow, rsvdRowT]; split <;> rfl
  | listen => simp only [rsvdRow, rsvdRowL]; split <;> rfl
  | command => simp only [rsvdRow, rsvdRowC]; split <;> rfl

theorem decodeCommand_format (c : Config) (d : Dir) (code : Byte) : (decodeCommand c d code).format = .sw := by
  simp only [decodeCommand]
  split_ifs
  on_goal 10 => exact rsvdRow_format d _ _
  all_goals cases d <;> rfl

theorem decodeServiceWord_format (c : Config) (w : Nat) : (decodeServiceWord c w).format = .sw := by
  simp only [decodeServiceWord]
  split
  · rfl
  · split
    case h_2 | h_3 | h_4 => exact decodeCommand_format c _ _
    all_goals rfl

/-- A decoded row is of the format of its word, whatever the parameters. -/
theorem decode_format {c : Config} {f : Format} {w : Nat} {i : Instr} (h : decode c f w = .ok i) : i.format = f := by
  cases f with
  | sw => obtain ⟨-, rfl⟩ := decode_sw_ok.1 h; exact decodeServiceWord_format c w
  | rxa => obtain ⟨hw, rfl⟩ := decode_rxa_ok.1 h; exact (decodeReceive_encodes c hw).format
  | dbIng => obtain ⟨-, rfl⟩ := decode_dbIng_ok.1 h; exact (decodeIngest_encodes c _).format
  | dbScan => obtain ⟨-, rfl⟩ := decode_dbScan_ok.1 h; exact (decodeScan_encodes c _).format
  | fs => obtain ⟨-, rfl⟩ := decode_fs_ok.1 h; exact (decodeFontSelect_encodes c _).format
  | host => obtain ⟨hw, rfl⟩ := decode_host_ok.1 h; exact (decodeHost_encodes c hw).format

/-! ### Other values on the input ports, operation by operation -/

/-- The sample with other values on the reset line and on the host's two requests (spec/44_interfaces.md R204, R205). -/
def Pins.withRequests (p : Pins) (line init start : Bool) : Pins := { p with drvReset := line, init := init, svcStart := start }

/-- The state with the sampled input ports as in `q`. -/
def State.withPins (s : State) (q : Pins) : State := { s with pins := q }

/-- The state with other values on these three ports of the sample. -/
def State.withRequests (s : State) (line init start : Bool) : State := s.withPins (s.pins.withRequests line init start)

/-- The outcome with the input ports of the next state, if there is one, as in `q`. -/
def outcomeWithPins (q : Pins) : Host.Outcome State Fault Refusal → Host.Outcome State Fault Refusal
  | .next t => .next (t.withPins q)
  | .fault f => .fault f
  | .refused r => .refused r

/-- What is fetched, with the input ports as in `q` after a piece of a handler. -/
def Fetched.withPins (q : Pins) : Fetched → Fetched
  | .word f w => .word f w
  | .piece o => .piece (outcomeWithPins q o)
  | .waiting call => .waiting call

theorem callSend_with_pins (s : State) (q : Pins) : callSend (s.withPins q) = (callSend s).withPins q := by
  simp only [callSend, State.withPins]
  split <;> rfl

theorem sendTaken_with_pins (s : State) (q : Pins) : sendTaken (s.withPins q) = (sendTaken s).withPins q := by
  obtain ⟨hmore, h⟩ | ⟨hlast, h⟩ := sendTaken_cases s <;> rw [h]
  · exact (if_pos hmore).trans (callSend_with_pins { s with txIdx := s.txIdx + 1 } q)
  · exact if_neg (Nat.not_lt.2 hlast)

theorem endOfTurn_with_pins (s : State) (q : Pins) : endOfTurn (s.withPins q) = (endOfTurn s).withPins q := by
  obtain ⟨heod, h⟩ | ⟨hmore, h⟩ := endOfTurn_cases s <;> rw [h]
  · exact if_pos heod
  · exact if_neg (Bool.not_eq_true _ ▸ hmore)

/-- The end of a turn as what an instruction leaves. -/
theorem nextTurn_with_pins (s : State) (q : Pins) :
    .next (endOfTurn (s.withPins q)) = outcomeWithPins q (.next (endOfTurn s)) := congrArg _ (endOfTurn_with_pins s q)

theorem advanceScan_with_pins (s : State) (q : Pins) : advanceScan (s.withPins q) = (advanceScan s).withPins q := by
  obtain ⟨hidx, h⟩ | ⟨hidx, hrow, h⟩ | ⟨hidx, hrow, h⟩ := advanceScan_cases s <;> rw [h]
  · exact advanceScan_of_entry hidx
  · exact advanceScan_of_row hidx (Nat.lt_of_succ_lt_succ hrow)
  · exact advanceScan_of_lastRow hidx (Nat.le_of_succ_le_succ hrow)

/-- The way on of a scan as what an instruction leaves. -/
theorem nextAdvance_with_pins (s : State) (q : Pins) :
    .next (advanceScan (s.withPins q)) = outcomeWithPins q (.next (advanceScan s)) := congrArg _ (advanceScan_with_pins s q)

theorem setCase_with_pins (f : Font) (s : State) (q : Pins) : setCase f (s.withPins q) = (setCase f s).withPins q := by
  rw [setCase_eq, setCase_eq]
  rfl

/-- A store to the line passes other ports on to the rest of the instruction. -/
theorem writeLine_with_pins {k : State → Host.Outcome State Fault Refusal} {q : Pins}
    (hk : ∀ t, k (t.withPins q) = outcomeWithPins q (k t)) (s : State) (a : Nat) (v : Byte) :
    writeLine (s.withPins q) a v k = outcomeWithPins q (writeLine s a v k) := by
  obtain ha | ha := Nat.lt_or_ge a 49
  · rw [writeLine_of_lt ha, writeLine_of_lt ha]
    exact hk { s with line := s.line.write a v }
  · rw [writeLine_of_ge ha, writeLine_of_ge ha]
    rfl

/-- A store to the bitmap passes other ports on to the rest of the instruction. -/
theorem writeBmp_with_pins {k : State → Host.Outcome State Fault Refusal} {q : Pins}
    (hk : ∀ t, k (t.withPins q) = outcomeWithPins q (k t)) (s : State) (a : Nat) (v : Byte) :
    writeBmp (s.withPins q) a v k = outcomeWithPins q (writeBmp s a v k) := by
  obtain ha | ha := Nat.lt_or_ge a 432
  · rw [writeBmp_of_lt ha, writeBmp_of_lt ha]
    exact hk { s with bmp := s.bmp.write a v }
  · rw [writeBmp_of_ge ha, writeBmp_of_ge ha]
    rfl

theorem flush_with_pins (s : State) (q : Pins) : flush (s.withPins q) = outcomeWithPins q (flush s) :=
  writeLine_with_pins (fun _ => rfl) s _ _

theorem execIngChar_with_pins (b : Byte) (s : State) (q : Pins) :
    execIngChar b (s.withPins q) = outcomeWithPins q (execIngChar b s) := by
  refine writeLine_with_pins (fun t => ?_) s _ _
  by_cases hfull : t.lineLen + 1 = Config.cols
  · exact (if_pos hfull).trans ((flush_with_pins { t with lineLen := t.lineLen + 1 } q).trans (congrArg _ (if_pos hfull).symm))
  · exact (if_neg hfull).trans ((nextTurn_with_pins { t with lineLen := t.lineLen + 1 } q).trans (congrArg _ (if_neg hfull).symm))

theorem scanPrint_of_noColumn {b : Byte} {s : State} (heol : s.eol = false) (haddr : printAddr s = none) :
    scanPrint b s = .fault (.noColumn s.idx s.skip) := by
  simp only [scanPrint, heol, haddr, Bool.false_eq_true, if_false]

theorem scanPrint_of_printAddr {b : Byte} {s : State} {a : Nat} (heol : s.eol = false) (haddr : printAddr s = some a) :
    scanPrint b s = writeBmp s a (glyphRow s s.font s.rvs b s.row) fun t => .next (advanceScan t) := by
  simp only [scanPrint, heol, haddr, Bool.false_eq_true, if_false]

theorem scanPrint_with_pins (b : Byte) (s : State) (q : Pins) :
    scanPrint b (s.withPins q) = outcomeWithPins q (scanPrint b s) := by
  cases heol : s.eol with
  | true => rw [scanPrint_eol heol, scanPrint_eol (s := s.withPins q) heol, nextAdvance_with_pins]
  | false =>
    cases haddr : printAddr s with
    | none =>
      rw [scanPrint_of_noColumn heol haddr, scanPrint_of_noColumn (s := s.withPins q) heol haddr]
      rfl
    | some a =>
      rw [scanPrint_of_printAddr heol haddr, scanPrint_of_printAddr (s := s.withPins q) heol haddr,
        glyphRow_of_constants (s := s) (t := s.withPins q) rfl]
      exact writeBmp_with_pins (fun t => nextAdvance_with_pins t q) s a _

theorem padAndPrint_with_pins (s : State) (q : Pins) : padAndPrint (s.withPins q) = outcomeWithPins q (padAndPrint s) := by
  simp only [padAndPrint, State.withPins]
  generalize s.bmp.writeRun _ _ _ = padded
  cases padded.readRun 0 Config.bmpSize <;> rfl

/-! ### Inside a cycle the reset line and the host's requests are not looked at (R222, spec/44_interfaces.md R204) -/

/-- Of all rows only the host's `SERVICE_CYCLE` reads one of the three ports, the reset line (spec/44_interfaces.md R192). -/
theorem exec_withRequests {i : Instr} (hi : i.format ≠ .host) (s : State) (line init start : Bool) :
    exec i (s.withRequests line init start)
      = outcomeWithPins (s.pins.withRequests line init start) (exec i s) := by
  unfold State.withRequests
  generalize hq : s.pins.withRequests line init start = q
  have hcase (f : Font) : Host.Outcome.next (advanceScan (setCase f (countSkip (s.withPins q))))
      = outcomeWithPins q (.next (advanceScan (setCase f (countSkip s)))) :=
    (congrArg (fun t => Host.Outcome.next (advanceScan t)) (setCase_with_pins f (countSkip s) q)).trans (nextAdvance_with_pins _ q)
  cases i with
  | hostInit _ | hostServiceCycle | hostNone => exact absurd rfl hi
  | dataT ch =>
    rw [exec_dataT, exec_dataT]
    subst hq
    exact congrArg _ (callSend_with_pins { dispatchCommand .talk (commandCode s.cfg.verbData ch) .dataTalk .talk s with txIdx := 0 } _)
  | ingChar b => exact execIngChar_with_pins b s q
  | ingCr => exact flush_with_pins s q
  | scanPrint20 b | scanPrint40 b | scanPrintA0 b | scanPrintC0 b => exact scanPrint_with_pins b s q
  | scanCr => exact nextAdvance_with_pins (latchEol (countSkip s)) q
  | scanRvsOn => exact nextAdvance_with_pins (setRvs true (countSkip s)) q
  | scanRvsOff => exact nextAdvance_with_pins (setRvs false (countSkip s)) q
  | scanCaseLower => exact hcase .c64Lower
  | scanCaseUpper => exact hcase .c64Upper
  | scanCtrl00 _ | scanCtrl80 _ => exact nextAdvance_with_pins (countSkip s) q
  | _ => subst hq; rfl

/-- The service word is taken from other ports, and no piece of a handler that goes on is found with it. -/
theorem fetchServiceWord_withRequests (s : State) (line init start : Bool) :
    fetchServiceWord (s.withRequests line init start)
      = (fetchServiceWord s).withPins (s.pins.withRequests line init start) := by
  have hsame : fetchServiceWord (s.withRequests line init start) = fetchServiceWord s := rfl
  rw [hsame, fetchServiceWord]
  split_ifs <;> rfl

theorem fetchTalk_withRequests (s : State) (line init start : Bool) :
    fetchTalk (s.withRequests line init start)
      = (fetchTalk s).withPins (s.pins.withRequests line init start) := by
  rw [fetchTalk, fetchTalk, State.withRequests, sendTaken_with_pins]
  simp only [State.withPins]
  split
  · rfl
  · rw [apply_ite (Fetched.withPins _)]
    rfl

theorem fetchScan_with_pins (s : State) (q : Pins) : fetchScan (s.withPins q) = (fetchScan s).withPins q := by
  have hread : memRead (s.withPins q) .line (s.withPins q).idx = memRead s .line s.idx := rfl
  rw [fetchScan, fetchScan, hread]
  split <;> rfl

theorem fetchPrint_withRequests (s : State) (line init start : Bool) :
    fetchPrint (s.withRequests line init start)
      = (fetchPrint s).withPins (s.pins.withRequests line init start) := by
  have hreturned (q : Pins) : printReturned (s.withPins q) = (printReturned s).withPins q :=
    endOfTurn_with_pins { s with lineLen := 0 } q
  simp only [fetchPrint, State.withRequests, hreturned, apply_ite (Fetched.withPins _)]
  rfl

/-- Between cycles is the only place where one of the three ports says what comes next. -/
theorem fetch_withRequests {s : State} (hst : s.stage ≠ .host) (line init start : Bool) :
    fetch (s.withRequests line init start)
      = (fetch s).withPins (s.pins.withRequests line init start) := by
  have hwith {st : Stage} (h : s.stage = st) : (s.withRequests line init start).stage = st := h
  cases hstage : s.stage with
  | host => exact absurd hstage hst
  | sw => rw [fetch_of_sw hstage, fetch_of_sw (hwith hstage), fetchServiceWord_withRequests]
  | talk => rw [fetch_of_talk hstage, fetch_of_talk (hwith hstage), fetchTalk_withRequests]
  | fontSelect => rw [fetch_of_fontSelect hstage, fetch_of_fontSelect (hwith hstage)]; rfl
  | openSession => rw [fetch_of_openSession hstage, fetch_of_openSession (hwith hstage)]; rfl
  | rx =>
    rw [fetch_of_rx hstage, fetch_of_rx (hwith hstage), apply_ite (Fetched.withPins _)]
    rfl
  | ingest => rw [fetch_of_ingest hstage, fetch_of_ingest (hwith hstage)]; rfl
  | scan => rw [fetch_of_scan hstage, fetch_of_scan (hwith hstage), State.withRequests, fetchScan_with_pins]
  | pad => rw [fetch_of_pad hstage, fetch_of_pad (hwith hstage), State.withRequests, padAndPrint_with_pins]; rfl
  | print => rw [fetch_of_print hstage, fetch_of_print (hwith hstage), fetchPrint_withRequests]
  | complete => rw [fetch_of_complete hstage, fetch_of_complete (hwith hstage)]; rfl

/-- A word that a core inside a cycle takes is no host request. -/
theorem fetch_word_format {s : State} {f : Format} {w : Nat} (hst : s.stage ≠ .host) (h : fetch s = .word f w) : f ≠ .host := by
  obtain ⟨hhost, -⟩ | ⟨-, rfl, -⟩ | ⟨-, rfl⟩ | ⟨-, rfl⟩ | ⟨-, rfl⟩ | ⟨-, rfl, -⟩ := fetch_word h
  · exact absurd hhost hst
  all_goals nofun

/-- What the core does at an edge, with other values on the three ports. -/
theorem advance_withRequests {s : State} (hst : s.stage ≠ .host) (more line init start : Bool) :
    advance more (s.withRequests line init start)
      = outcomeWithPins (s.pins.withRequests line init start) (advance more s) := by
  have hfetch := fetch_withRequests hst line init start
  cases hf : fetch s with
  | word f w =>
    rw [hf] at hfetch
    have hformat := fetch_word_format hst hf
    cases hd : decode s.cfg f w with
    | ok i =>
      rw [advance_word hfetch hd, advance_word hf hd]
      exact exec_withRequests (decode_format hd ▸ hformat) s line init start
    | error e =>
      have hd' : decode (s.withRequests line init start).cfg f w = .error e := hd
      simp only [advance, hf, hfetch, Fetched.withPins, hd, hd', outcomeWithPins]
  | piece o =>
    rw [hf] at hfetch
    rw [advance_piece hfetch, advance_piece hf]
  | waiting call =>
    rw [hf] at hfetch
    rw [advance_waiting hfetch, advance_waiting hf]
    cases more <;> rfl

/-- A step inside a cycle, with other values on the three ports of the sample it takes. -/
theorem step_withRequests {s : State} {p : Pins} {rest : List Pins} (htape : s.tape = p :: rest) (hst : s.stage ≠ .host)
    (line init start : Bool) :
    step { s with tape := p.withRequests line init start :: rest } = outcomeWithPins (p.withRequests line init start) (step s) := by
  have hsample := sample_eq_sampled htape
  have hsample' : sample { s with tape := p.withRequests line init start :: rest }
      = (s.sampled p rest).withPins (p.withRequests line init start) := rfl
  cases hrst : p.rst with
  | true =>
    rw [step_of_rst (s := s) (by rwa [hsample]), step_of_rst (by rw [hsample']; exact hrst), hsample, hsample']
    rfl
  | false =>
    have hmore : (!s.tape.isEmpty) = true := by rw [htape]; rfl
    rw [step_of_running (s := s) (by rwa [hsample]), step_of_running (by rw [hsample']; exact hrst), hsample, hsample', hmore]
    exact advance_withRequests (s := s.sampled p rest) hst true line init start

/-! ### The way of a bus reset through a listen session (R222, R225, R229) -/

/-- Samples at which the core, at stage `st`, does nothing but sample leave it where it stands. -/
theorem steps_of_quiet {st : Stage} {quiet rest : List Pins}
    (hquiet : ∀ p ∈ quiet, ∀ (s : State) (ts : List Pins), s.stage = st → s.tape = p :: ts → step s = .next (s.sampled p ts))
    {s : State} (hst : s.stage = st) (htape : s.tape = quiet ++ rest) :
    ∃ p done, steps quiet.length s = .next { s with pins := p, tape := rest, svcDone := done } := by
  induction quiet generalizing s with
  | nil => exact ⟨s.pins, s.svcDone, by rw [← show s.tape = rest from htape]; rfl⟩
  | cons p ps ih =>
    obtain ⟨hp, hps⟩ := List.forall_mem_cons.1 hquiet
    obtain ⟨q, done, hsteps⟩ := ih hps (s := s.sampled p (ps ++ rest)) hst rfl
    exact ⟨q, done, (steps_succ (hp s (ps ++ rest) hst htape) ps.length).trans hsteps⟩

/-- The edge at which `receive()` has not returned. -/
theorem step_of_receiveWaits {s : State} {p : Pins} {rest : List Pins} (hrst : p.rst = false) (hack : p.rxAck = false)
    (hst : s.stage = .rx) (htape : s.tape = p :: rest) : step s = .next (s.sampled p rest) := by
  have hsample := sample_eq_sampled htape
  rw [← hsample]
  refine step_of_waiting (by simp [htape]) (by rwa [hsample]) (fetch_of_rx_of_noAnswer (by rwa [sample_stage]) ?_)
  rwa [hsample]

/-- The edge, between cycles, without a request of the host. -/
theorem step_of_noRequest {s : State} {p : Pins} {rest : List Pins} (hrst : p.rst = false) (hinit : p.init = false)
    (hstart : p.svcStart = false) (hst : s.stage = .host) (htape : s.tape = p :: rest) : step s = .next (s.sampled p rest) := by
  have hfetch : fetch (s.sampled p rest) = .word .host (hostWord p.init p.svcStart) := fetch_of_host hst
  have hdecode := decode_hostWord s.cfg p.init p.svcStart
  have hsample := sample_eq_sampled htape
  rw [hinit, hstart] at hfetch hdecode
  rw [step_of_running (by rwa [hsample]), hsample, advance_word hfetch hdecode]
  rfl

/-- The edge at which `receive()` returns with an error: the listen loop is left (R225). -/
theorem step_of_receiveError {s : State} {p : Pins} {rest : List Pins} (hst : s.stage = .rx) (htape : s.tape = p :: rest)
    (hrst : p.rst = false) (hack : p.rxAck = true) (herr : p.rxErr = true) :
    step s = .next { latchReceive p.rxData p.rxEod true (s.sampled p rest) with stage := .complete } := by
  have hsample := sample_eq_sampled htape
  have hfetch : fetch (s.sampled p rest) = .word .rxa (receiveWord p.rxErr p.rxEod p.rxData) :=
    (fetch_of_rx (s := s.sampled p rest) hst).trans (if_pos hack)
  have hdecode := decode_receiveWord s.cfg p.rxErr p.rxEod p.rxData
  rw [herr] at hfetch hdecode
  rw [step_of_running (by rwa [hsample]), hsample, advance_word hfetch hdecode]
  rfl

/-- A failed `receive()` ends the cycle at the next edge, with the direction as the outcome: nothing is ingested or printed. -/
theorem steps_of_receiveError {s : State} {answer completion : Pins} {rest : List Pins} (hst : s.stage = .rx)
    (htape : s.tape = answer :: completion :: rest) (hrst : answer.rst = false) (hack : answer.rxAck = true)
    (herr : answer.rxErr = true) (hrst' : completion.rst = false) :
    ∃ t, steps 2 s = .next t ∧ t.stage = .host ∧ t.tape = rest ∧ t.cfg = s.cfg ∧ t.mem = s.mem
      ∧ t.trace = s.trace ++ [.returned (outcomeOfRes s.cmdRes)] := by
  have hanswer := step_of_receiveError hst htape hrst hack herr
  have hcompletion := step_of_complete
    (s := { latchReceive answer.rxData answer.rxEod true (s.sampled answer (completion :: rest)) with stage := .complete }) rfl hrst'
  exact ⟨_, (steps_succ hanswer 1).trans (steps_succ hcompletion 0), rfl, rfl, rfl, rfl, rfl⟩

/-! ### The statements -/

/-- Settles O8: past the end of the tape no call is answered, so each of the five waits, and there is no sample to wait for. -/
theorem callWithoutAnswerIsStuck : Obligations.CallWithoutAnswerIsStuck := by
  unfold Obligations.CallWithoutAnswerIsStuck
  intro s htape
  have hpins := sample_pins_of_nil htape
  refine ⟨fun hst hpoll => ?attention, fun hst => ?receive, fun hst => ?print, fun hst hmore => ?send, fun hst hlast => ?sendFinal⟩
  case attention =>
    have hwaits := fetchServiceWord_of_noAnswer (s := sample s) (by rwa [sample_pollR]) (by rw [hpins])
    exact step_of_stuck htape ((fetch_of_sw (by rwa [sample_stage])).trans hwaits)
  case receive => exact step_of_stuck htape (fetch_of_rx_of_noAnswer (by rwa [sample_stage]) (by rw [hpins]))
  case print =>
    have hwaits := fetchPrint_of_noAnswer (s := sample s) (by rw [hpins]) (by rw [hpins])
    exact step_of_stuck htape ((fetch_of_print (by rwa [sample_stage])).trans hwaits)
  case send =>
    have hstuck := step_of_stuckSend htape hst (by omega)
    rwa [if_neg (by omega)] at hstuck
  case sendFinal =>
    have hstuck := step_of_stuckSend htape hst (by omega)
    rwa [if_pos hlast] at hstuck

/-- Settles O59: the step with other values on the three ports is the same step, but for these ports in the next state. -/
theorem insideACycleResetLineAndHostAreNotLookedAt : Obligations.InsideACycleResetLineAndHostAreNotLookedAt := by
  unfold Obligations.InsideACycleResetLineAndHostAreNotLookedAt
  intro s p rest a b c htape hst
  have hstep := step_withRequests htape hst a b c
  cases hs : step s with
  | next t => exact .inl ⟨t, rfl, hstep.trans (congrArg _ hs)⟩
  | fault f => exact .inr (.inl ⟨f, rfl, hstep.trans (congrArg _ hs)⟩)
  | refused r => exact .inr (.inr ⟨r, rfl, hstep.trans (congrArg _ hs)⟩)

/-- Settles O47: the wait for `receive()`, its failed return and the completion, the wait for the next request, and the cycle whose poll
answers true. -/
theorem busResetInASessionDropsTheLine : Obligations.BusResetInASessionDropsTheLine := by
  unfold Obligations.BusResetInASessionDropsTheLine
  intro s waiting idle a answer completion poll word rest hst hres hline htape hwaiting ha hreset hunblocks hrst hrst' hidle hpollRst
    hinit hstart hheld hwordRst
  obtain ⟨hack, herr⟩ := hunblocks ⟨a, ha, hreset⟩
  have hpoll : poll.drvReset = true := hheld hreset
  rw [List.append_assoc] at htape
  have hnoAnswer := fun q hq u ts => have ⟨hrst, hack⟩ := hwaiting q hq; step_of_receiveWaits (s := u) (rest := ts) hrst hack
  have hnoRequest := fun q hq u ts =>
    have ⟨hrst, hinit, hstart⟩ := hidle q hq; step_of_noRequest (s := u) (rest := ts) hrst hinit hstart
  obtain ⟨p, done, hwait⟩ := steps_of_quiet hnoAnswer hst htape
  obtain ⟨u, hfailed, hhost, hrest, hcfg, hmem, htrace⟩ :=
    steps_of_receiveError (s := { s with pins := p, tape := answer :: completion :: idle ++ poll :: word :: rest, svcDone := done })
      hst rfl hrst hack herr hrst'
  obtain ⟨q, done', hquiet⟩ := steps_of_quiet hnoRequest hhost hrest
  obtain ⟨t, hcycle, hregisters, houtcome, hstage, -, hevents, hbytes⟩ := cycleWithBusResetDecodesNothing
    { u with pins := q, tape := poll :: word :: rest, svcDone := done' } poll word rest hhost rfl (hcfg ▸ hline) hpollRst hinit hstart
    hpoll hwordRst
  have hsplit : waiting.length + idle.length + 4 = waiting.length + (2 + (idle.length + 2)) := by omega
  refine ⟨t, ?run, hregisters.of_cfg_eq hcfg, houtcome, hstage, ?trace, (sameBytes_of_mem_eq hmem).trans hbytes⟩
  case run => rw [hsplit, steps_add hwait, steps_add hfailed, steps_add hquiet, hcycle]
  case trace =>
    have hlisten : outcomeOfRes s.cmdRes = .listen := by rw [hres]; rfl
    rw [hevents, htrace, hlisten, List.append_assoc]
    rfl

end Sys2Proof.Machine
end

section
/-! Reset and hazards (spec/70_reset_and_hazards.md): `rst` at any stage (R252). -/
namespace Sys2Proof.Machine

/-! ### What a hardware reset leaves (R252, spec/10_state.md R46) -/

/-- Apart from the registers of `do_reset`, `rst` writes the stage, `svc_busy_o` and `svc_done_o` only; no event is recorded. -/
theorem hardwareReset_frame (s : State) :
    { hardwareReset s with
      phase := s.phase, openState := s.openState, pendingErr := s.pendingErr, font := s.font, lineLen := s.lineLen,
      crit := s.crit, stage := s.stage, svcBusy := s.svcBusy, svcDone := s.svcDone } = s := rfl

theorem hardwareReset_sameBytes (s : State) : SameBytes s (hardwareReset s) := sameBytes_of_mem_eq rfl

/-! ### The statement -/

/-- Settles O7: a step whose sample has `rst` is the hardware reset of the sampled state, with no case of the stage, and sampling
itself writes the ports, the tape and `svc_done_o` only. -/
theorem hardwareResetActsAtAnyStage : Obligations.HardwareResetActsAtAnyStage := by
  unfold Obligations.HardwareResetActsAtAnyStage
  intro s hrst
  have hstep := step_of_rst hrst
  obtain ⟨p, ts, hsample⟩ := sample_eq s
  rw [hsample] at hstep
  refine ⟨_, hstep, (hardwareReset_resetRegisters _).of_cfg_eq rfl, rfl, rfl, rfl, ?bytes, ?frame⟩
  case bytes => exact hardwareReset_sameBytes { s with pins := p, tape := ts, svcDone := false }
  case frame =>
    have hkept := hardwareReset_frame { s with pins := p, tape := ts, svcDone := false }
    exact congrArg (fun u : State => { u with pins := s.pins, tape := s.tape, svcDone := s.svcDone }) hkept

end Sys2Proof.Machine
end

section
/-! The words that the spec writes out (spec/95_test_vectors.md), read with the round trip of spec/30_encoding.md R75 to R88. -/
namespace Sys2Proof

/-- The word of a well-formed instruction decodes to it (R88). -/
theorem Encodes.decode_eq {c : Config} (h : c.wf = true) {f : Format} {w : Nat} {i : Instr} (he : Encodes c f w i) :
    decode c f w = .ok i := by
  obtain ⟨rfl, rfl, hwf⟩ := he
  exact decode_encode h hwf

/-- Settles O4: each word is the encoding of its row, which is well formed with the default parameters, so the round trip gives the row
back. -/
theorem wordsOfTheSpecDecodeToTheirRows : Obligations.WordsOfTheSpecDecodeToTheirRows := by
  unfold Obligations.WordsOfTheSpecDecodeToTheirRows
  intro x hx
  have hrow : x.2.2.format = x.1 ∧ encode Config.platform x.2.2 = x.2.1 ∧ x.2.2.wf Config.platform = true := by
    revert x
    decide
  obtain ⟨hformat, hword, hwf⟩ := hrow
  exact Encodes.decode_eq Machine.platform_wf ⟨hformat, hword, hwf⟩

end Sys2Proof
end
